-- ==== Sys2Proof/Word.lean ====
section
/-! DEFINITION. The word types of the ARMv7-A core (rules R6, R8 of spec/00_scope.md): a register and an
address are 32 bits, memory is addressed by the byte, a register field of an instruction is 4 bits wide. -/

namespace Sys2Proof

/-- A 32-bit register value, instruction word or address (R6: register width, virtual and physical
address width are all 32). Arithmetic on it wraps modulo 2^32 (R8). -/
abbrev Word := BitVec 32

/-- The unit of memory (R101: one byte-addressed space). -/
abbrev Byte := BitVec 8

/-- A register number of an instruction field, r0 to r15 (R180). -/
abbrev Reg := BitVec 4

/-- The condition field `word[31:28]` (R47, R162). -/
abbrev Cond := BitVec 4

/-- The number of r15, the program counter (R30). -/
abbrev pcReg : Reg := 15

/-- The number of r14, the link register (R30). -/
abbrev lrReg : Reg := 14

/-- The number of r13, the stack pointer (R30: an alias without hardware behaviour of its own). -/
abbrev spReg : Reg := 13

/-- R47: the condition field `1111` belongs to the unconditional space and is never evaluated. -/
abbrev condUnconditional : Cond := 15

end Sys2Proof
end

