-- ==== Sys2Proof/Machine/Bits.lean ====
section
/-! DEFINITION. Bit fields, byte order, rotation and sign extension (rules R7, R8, R103 of spec/). Every file that
cuts a field out of a word or puts one into it does so with these. -/

namespace Sys2Proof.Machine

/-- R7: `x[lo+n-1 : lo]`. -/
def slice (x : Word) (lo n : Nat) : BitVec n := x.extractLsb' lo n

/-- R7: `x[i]`. -/
def bit (x : Word) (i : Nat) : Bool := x.getLsbD i

/-- The word that holds `v` in its bits `lo+n-1 : lo` and 0 elsewhere. -/
def place {n : Nat} (v : BitVec n) (lo : Nat) : Word := v.setWidth 32 <<< lo

/-- The word whose bit `i` is `b` and whose other bits are 0. -/
def placeBit (b : Bool) (i : Nat) : Word := place (BitVec.ofBool b) i

/-- `old` with the bits of `mask` taken from `new`: the masked writes of R39, R46 and R521. -/
def merge (mask old new : Word) : Word := (old &&& ~~~mask) ||| (new &&& mask)

/-- The mask of `n` bits from `lo` upwards. -/
def maskOf (lo n : Nat) : Word := place (BitVec.allOnes n) lo

/-- `x` with its bits `lo+n-1 : lo` replaced by `v`. -/
def putSlice {n : Nat} (x : Word) (lo : Nat) (v : BitVec n) : Word := merge (maskOf lo n) x (place v lo)

/-- `x` with its bit `i` replaced by `b`. -/
def putBit (x : Word) (i : Nat) (b : Bool) : Word := putSlice x i (BitVec.ofBool b)

/-- The mask `m` where the Bool holds, else the empty mask. -/
def maskIf (b : Bool) (m : Word) : Word := if b then m else 0

/-- R8: `sext_32`. -/
def sext {n : Nat} (v : BitVec n) : Word := v.signExtend 32

/-- R8: `zext_32`. -/
def zext {n : Nat} (v : BitVec n) : Word := v.setWidth 32

/-- R8: `ROR(x, n)`, the rotation by `n mod 32`. -/
def ror (x : Word) (n : Nat) : Word := (x >>> (n % 32)) ||| (x <<< ((32 - n % 32) % 32))

/-- R8: `BitCount` of a register list. -/
def bitCount {n : Nat} (x : BitVec n) : Nat := ((List.range n).filter fun i => x.getLsbD i).length

/-- R8: how many of the low `n` bits of `x`, from bit `n - 1` downwards, are 0 before the first 1. -/
def leadingZeros (x : Word) : Nat → Nat
  | 0 => 0
  | n + 1 => if x.getLsbD n then 0 else leadingZeros x n + 1

/-- R8: `CountLeadingZeroBits(x)`, 32 for `x = 0`. -/
def countLeadingZeroBits (x : Word) : Nat := leadingZeros x 32

/-- The numbers of the registers of a list, ascending (R410). -/
def registerList {n : Nat} (x : BitVec n) : List Reg :=
  ((List.range n).filter fun i => x.getLsbD i).map (BitVec.ofNat 4)

/-- R8: `LowestSetBit(x)` of a register list, 32 for the empty list. -/
def lowestSetBit {n : Nat} (x : BitVec n) : Nat := ((List.range n).filter fun i => x.getLsbD i).headD 32

/-- R103: byte `i` of a value, counted from the least significant. -/
def byteOf (v : Word) (i : Nat) : Byte := v.extractLsb' (8 * i) 8

/-- R103: four bytes, lowest address first, as a word. -/
def wordOfBytes (b0 b1 b2 b3 : Byte) : Word :=
  place b0 0 ||| place b1 8 ||| place b2 16 ||| place b3 24

/-- R103: a word as four bytes, lowest address first. -/
def bytesOfWord (w : Word) : List Byte := [byteOf w 0, byteOf w 1, byteOf w 2, byteOf w 3]

end Sys2Proof.Machine
end

