-- ==== Sys2Proof/Machine/OpcodeTable.lean ====
section
/-! DEFINITION. The opcode table of the spec (spec/opcode_table.json): the fixed bits of each of its 220 rows, in its
order. The first row that matches a word is the word's row (R161: every word has exactly one). -/

namespace Sys2Proof.Machine

/-- The fixed bits of a row: a word matches when its bits under `mask` are those of `value`. -/
structure Pattern where
  mask : Word
  value : Word
  deriving DecidableEq, Repr

def Pattern.hits (p : Pattern) (w : Word) : Bool := w &&& p.mask == p.value

/-- Rows 0 to 19. -/
def patterns0 : List Pattern := [
  ⟨0xFFF10020, 0xF1000000⟩,  -- 0 CPS
  ⟨0xFFFF00F0, 0xF1010000⟩,  -- 1 SETEND
  ⟨0xFE000000, 0xF2000000⟩,  -- 2 SIMD_data-processing
  ⟨0xFF100000, 0xF4000000⟩,  -- 3 SIMD_element_structure_load_store
  ⟨0xFF700000, 0xF4100000⟩,  -- 4 unallocated_memory_hint__immediate
  ⟨0xFF700000, 0xF4500000⟩,  -- 5 PLI__immediate__literal
  ⟨0xFF7F0000, 0xF51F0000⟩,  -- 6 UNPREDICTABLE__PLDW_immediate__Rn___1111
  ⟨0xFF700000, 0xF5100000⟩,  -- 7 PLDW__immediate
  ⟨0xFF700000, 0xF5500000⟩,  -- 8 PLD__immediate__literal
  ⟨0xFFF00000, 0xF5300000⟩,  -- 9 UNPREDICTABLE__unconditional_1010011
  ⟨0xFFF000F0, 0xF5700010⟩,  -- 10 CLREX
  ⟨0xFFF000F0, 0xF5700040⟩,  -- 11 DSB
  ⟨0xFFF000F0, 0xF5700050⟩,  -- 12 DMB
  ⟨0xFFF000F0, 0xF5700060⟩,  -- 13 ISB
  ⟨0xFFF00000, 0xF5700000⟩,  -- 14 UNPREDICTABLE__unconditional_1010111__other_op2
  ⟨0xFFB00000, 0xF5B00000⟩,  -- 15 UNPREDICTABLE__unconditional_1011x11
  ⟨0xFF700010, 0xF6100000⟩,  -- 16 unallocated_memory_hint__register
  ⟨0xFF700010, 0xF6500000⟩,  -- 17 PLI__register
  ⟨0xFF700010, 0xF7100000⟩,  -- 18 PLDW__register
  ⟨0xFF700010, 0xF7500000⟩]  -- 19 PLD__register

/-- Rows 20 to 39. -/
def patterns1 : List Pattern := [
  ⟨0xFE300010, 0xF6300000⟩,  -- 20 UNPREDICTABLE__unconditional_11xxx11__op2___xxx0
  ⟨0xF8000000, 0xF0000000⟩,  -- 21 UNDEFINED__unconditional_0xxxxxxx__other
  ⟨0xFE500000, 0xF8400000⟩,  -- 22 SRS
  ⟨0xFE500000, 0xF8100000⟩,  -- 23 RFE
  ⟨0xFE000000, 0xFA000000⟩,  -- 24 BLX__immediate
  ⟨0xFFE00000, 0xFC000000⟩,  -- 25 UNDEFINED__unconditional_1100000x
  ⟨0xFE000E00, 0xFC000A00⟩,  -- 26 coprocessor_10_11__unconditional_LDC2_STC2_MCRR2_MRRC2_f
  ⟨0xFF000E00, 0xFE000A00⟩,  -- 27 coprocessor_10_11__unconditional_CDP2_MCR2_MRC2_forms
  ⟨0xFFE00000, 0xFC400000⟩,  -- 28 MCRR2__MRRC2
  ⟨0xFE000000, 0xFC000000⟩,  -- 29 STC2__LDC2
  ⟨0xFF000010, 0xFE000000⟩,  -- 30 CDP2
  ⟨0xFF000010, 0xFE000010⟩,  -- 31 MCR2__MRC2
  ⟨0xF0000000, 0xF0000000⟩,  -- 32 UNDEFINED__unconditional__other
  ⟨0x0F9002F0, 0x01000200⟩,  -- 33 MRS_MSR__banked_register
  ⟨0x0FB002F0, 0x01000000⟩,  -- 34 MRS
  ⟨0x0FB002F0, 0x01200000⟩,  -- 35 MSR__register
  ⟨0x0FF000F0, 0x01200010⟩,  -- 36 BX
  ⟨0x0FF000F0, 0x01600010⟩,  -- 37 CLZ
  ⟨0x0FF000F0, 0x01200020⟩,  -- 38 BXJ
  ⟨0x0FF000F0, 0x01200030⟩]  -- 39 BLX__register

/-- Rows 40 to 59. -/
def patterns2 : List Pattern := [
  ⟨0x0F9000F0, 0x01000050⟩,  -- 40 QADD__QSUB__QDADD__QDSUB
  ⟨0x0FF000F0, 0x01600060⟩,  -- 41 ERET
  ⟨0x0FF000F0, 0x01200070⟩,  -- 42 BKPT
  ⟨0x0FF000F0, 0x01400070⟩,  -- 43 HVC
  ⟨0x0FF000F0, 0x01600070⟩,  -- 44 SMC
  ⟨0x0F900090, 0x01000080⟩,  -- 45 halfword_multiplies__SMLA_x__y___SMLAW_y___SMULW_y___SML
  ⟨0x0F900080, 0x01000000⟩,  -- 46 UNDEFINED__miscellaneous__other
  ⟨0x0FE000F0, 0x00000090⟩,  -- 47 MUL
  ⟨0x0FE000F0, 0x00200090⟩,  -- 48 MLA
  ⟨0x0FF000F0, 0x00400090⟩,  -- 49 UMAAL
  ⟨0x0FF000F0, 0x00500090⟩,  -- 50 UNDEFINED__multiply_op_0101
  ⟨0x0FF000F0, 0x00600090⟩,  -- 51 MLS
  ⟨0x0FF000F0, 0x00700090⟩,  -- 52 UNDEFINED__multiply_op_0111
  ⟨0x0FE000F0, 0x00800090⟩,  -- 53 UMULL
  ⟨0x0FE000F0, 0x00A00090⟩,  -- 54 UMLAL
  ⟨0x0FE000F0, 0x00C00090⟩,  -- 55 SMULL
  ⟨0x0FE000F0, 0x00E00090⟩,  -- 56 SMLAL
  ⟨0x0FB000F0, 0x01000090⟩,  -- 57 SWP__SWPB
  ⟨0x0FF000F0, 0x01800090⟩,  -- 58 STREX
  ⟨0x0FF000F0, 0x01900090⟩]  -- 59 LDREX

/-- Rows 60 to 79. -/
def patterns3 : List Pattern := [
  ⟨0x0F8000F0, 0x01800090⟩,  -- 60 STREXD__LDREXD__STREXB__LDREXB__STREXH__LDREXH
  ⟨0x0F8000F0, 0x01000090⟩,  -- 61 UNDEFINED__synchronization__other
  ⟨0x0F3000D0, 0x002000D0⟩,  -- 62 UNPREDICTABLE__LDRD_STRD_post-indexed_with_W___1
  ⟨0x0F7000F0, 0x006000B0⟩,  -- 63 STRHT__immediate
  ⟨0x0F7000F0, 0x002000B0⟩,  -- 64 STRHT__register
  ⟨0x0E5000F0, 0x004000B0⟩,  -- 65 STRH__immediate
  ⟨0x0E5000F0, 0x000000B0⟩,  -- 66 STRH__register
  ⟨0x0F7000F0, 0x007000B0⟩,  -- 67 LDRHT__immediate
  ⟨0x0F7000F0, 0x003000B0⟩,  -- 68 LDRHT__register
  ⟨0x0E5000F0, 0x005000B0⟩,  -- 69 LDRH__immediate__literal
  ⟨0x0E5000F0, 0x001000B0⟩,  -- 70 LDRH__register
  ⟨0x0E5000F0, 0x004000D0⟩,  -- 71 LDRD__immediate__literal
  ⟨0x0E5000F0, 0x000000D0⟩,  -- 72 LDRD__register
  ⟨0x0F7000F0, 0x007000D0⟩,  -- 73 LDRSBT__immediate
  ⟨0x0F7000F0, 0x003000D0⟩,  -- 74 LDRSBT__register
  ⟨0x0E5000F0, 0x005000D0⟩,  -- 75 LDRSB__immediate__literal
  ⟨0x0E5000F0, 0x001000D0⟩,  -- 76 LDRSB__register
  ⟨0x0E5000F0, 0x004000F0⟩,  -- 77 STRD__immediate
  ⟨0x0E5000F0, 0x000000F0⟩,  -- 78 STRD__register
  ⟨0x0F7000F0, 0x007000F0⟩]  -- 79 LDRSHT__immediate

/-- Rows 80 to 99. -/
def patterns4 : List Pattern := [
  ⟨0x0F7000F0, 0x003000F0⟩,  -- 80 LDRSHT__register
  ⟨0x0E5000F0, 0x005000F0⟩,  -- 81 LDRSH__immediate__literal
  ⟨0x0E5000F0, 0x001000F0⟩,  -- 82 LDRSH__register
  ⟨0x0FF00000, 0x03000000⟩,  -- 83 MOVW
  ⟨0x0FF00000, 0x03400000⟩,  -- 84 MOVT
  ⟨0x0FFF00FF, 0x03200000⟩,  -- 85 NOP
  ⟨0x0FFF00FF, 0x03200001⟩,  -- 86 YIELD
  ⟨0x0FFF00FF, 0x03200002⟩,  -- 87 WFE
  ⟨0x0FFF00FF, 0x03200003⟩,  -- 88 WFI
  ⟨0x0FFF00FF, 0x03200004⟩,  -- 89 SEV
  ⟨0x0FFF00F0, 0x032000F0⟩,  -- 90 DBG
  ⟨0x0FFF0000, 0x03200000⟩,  -- 91 unallocated_hint
  ⟨0x0FFF0000, 0x03600000⟩,  -- 92 UNPREDICTABLE__MSR_immediate__R___1__mask___0000
  ⟨0x0FB00000, 0x03200000⟩,  -- 93 MSR__immediate
  ⟨0x0FE00000, 0x02000000⟩,  -- 94 AND__immediate
  ⟨0x0FE00010, 0x00000000⟩,  -- 95 AND__register
  ⟨0x0FE00090, 0x00000010⟩,  -- 96 AND__register-shifted_register
  ⟨0x0FE00000, 0x02200000⟩,  -- 97 EOR__immediate
  ⟨0x0FE00010, 0x00200000⟩,  -- 98 EOR__register
  ⟨0x0FE00090, 0x00200010⟩]  -- 99 EOR__register-shifted_register

/-- Rows 100 to 119. -/
def patterns5 : List Pattern := [
  ⟨0x0FE00000, 0x02400000⟩,  -- 100 SUB__immediate
  ⟨0x0FE00010, 0x00400000⟩,  -- 101 SUB__register
  ⟨0x0FE00090, 0x00400010⟩,  -- 102 SUB__register-shifted_register
  ⟨0x0FE00000, 0x02600000⟩,  -- 103 RSB__immediate
  ⟨0x0FE00010, 0x00600000⟩,  -- 104 RSB__register
  ⟨0x0FE00090, 0x00600010⟩,  -- 105 RSB__register-shifted_register
  ⟨0x0FE00000, 0x02800000⟩,  -- 106 ADD__immediate
  ⟨0x0FE00010, 0x00800000⟩,  -- 107 ADD__register
  ⟨0x0FE00090, 0x00800010⟩,  -- 108 ADD__register-shifted_register
  ⟨0x0FE00000, 0x02A00000⟩,  -- 109 ADC__immediate
  ⟨0x0FE00010, 0x00A00000⟩,  -- 110 ADC__register
  ⟨0x0FE00090, 0x00A00010⟩,  -- 111 ADC__register-shifted_register
  ⟨0x0FE00000, 0x02C00000⟩,  -- 112 SBC__immediate
  ⟨0x0FE00010, 0x00C00000⟩,  -- 113 SBC__register
  ⟨0x0FE00090, 0x00C00010⟩,  -- 114 SBC__register-shifted_register
  ⟨0x0FE00000, 0x02E00000⟩,  -- 115 RSC__immediate
  ⟨0x0FE00010, 0x00E00000⟩,  -- 116 RSC__register
  ⟨0x0FE00090, 0x00E00010⟩,  -- 117 RSC__register-shifted_register
  ⟨0x0FF00000, 0x03100000⟩,  -- 118 TST__immediate
  ⟨0x0FF00010, 0x01100000⟩]  -- 119 TST__register

/-- Rows 120 to 139. -/
def patterns6 : List Pattern := [
  ⟨0x0FF00090, 0x01100010⟩,  -- 120 TST__register-shifted_register
  ⟨0x0FF00000, 0x03300000⟩,  -- 121 TEQ__immediate
  ⟨0x0FF00010, 0x01300000⟩,  -- 122 TEQ__register
  ⟨0x0FF00090, 0x01300010⟩,  -- 123 TEQ__register-shifted_register
  ⟨0x0FF00000, 0x03500000⟩,  -- 124 CMP__immediate
  ⟨0x0FF00010, 0x01500000⟩,  -- 125 CMP__register
  ⟨0x0FF00090, 0x01500010⟩,  -- 126 CMP__register-shifted_register
  ⟨0x0FF00000, 0x03700000⟩,  -- 127 CMN__immediate
  ⟨0x0FF00010, 0x01700000⟩,  -- 128 CMN__register
  ⟨0x0FF00090, 0x01700010⟩,  -- 129 CMN__register-shifted_register
  ⟨0x0FE00000, 0x03800000⟩,  -- 130 ORR__immediate
  ⟨0x0FE00010, 0x01800000⟩,  -- 131 ORR__register
  ⟨0x0FE00090, 0x01800010⟩,  -- 132 ORR__register-shifted_register
  ⟨0x0FE00000, 0x03A00000⟩,  -- 133 MOV__immediate
  ⟨0x0FE00FF0, 0x01A00000⟩,  -- 134 MOV__register
  ⟨0x0FE00FF0, 0x01A00060⟩,  -- 135 RRX
  ⟨0x0FE00070, 0x01A00000⟩,  -- 136 LSL__immediate
  ⟨0x0FE00070, 0x01A00020⟩,  -- 137 LSR__immediate
  ⟨0x0FE00070, 0x01A00040⟩,  -- 138 ASR__immediate
  ⟨0x0FE00070, 0x01A00060⟩]  -- 139 ROR__immediate

/-- Rows 140 to 159. -/
def patterns7 : List Pattern := [
  ⟨0x0FE000F0, 0x01A00010⟩,  -- 140 LSL__register
  ⟨0x0FE000F0, 0x01A00030⟩,  -- 141 LSR__register
  ⟨0x0FE000F0, 0x01A00050⟩,  -- 142 ASR__register
  ⟨0x0FE000F0, 0x01A00070⟩,  -- 143 ROR__register
  ⟨0x0FE00000, 0x03C00000⟩,  -- 144 BIC__immediate
  ⟨0x0FE00010, 0x01C00000⟩,  -- 145 BIC__register
  ⟨0x0FE00090, 0x01C00010⟩,  -- 146 BIC__register-shifted_register
  ⟨0x0FE00000, 0x03E00000⟩,  -- 147 MVN__immediate
  ⟨0x0FE00010, 0x01E00000⟩,  -- 148 MVN__register
  ⟨0x0FE00090, 0x01E00010⟩,  -- 149 MVN__register-shifted_register
  ⟨0x0F700000, 0x04200000⟩,  -- 150 STRT__immediate
  ⟨0x0F700010, 0x06200000⟩,  -- 151 STRT__register
  ⟨0x0E500000, 0x04000000⟩,  -- 152 STR__immediate
  ⟨0x0E500010, 0x06000000⟩,  -- 153 STR__register
  ⟨0x0F700000, 0x04300000⟩,  -- 154 LDRT__immediate
  ⟨0x0F700010, 0x06300000⟩,  -- 155 LDRT__register
  ⟨0x0E500000, 0x04100000⟩,  -- 156 LDR__immediate__literal
  ⟨0x0E500010, 0x06100000⟩,  -- 157 LDR__register
  ⟨0x0F700000, 0x04600000⟩,  -- 158 STRBT__immediate
  ⟨0x0F700010, 0x06600000⟩]  -- 159 STRBT__register

/-- Rows 160 to 179. -/
def patterns8 : List Pattern := [
  ⟨0x0E500000, 0x04400000⟩,  -- 160 STRB__immediate
  ⟨0x0E500010, 0x06400000⟩,  -- 161 STRB__register
  ⟨0x0F700000, 0x04700000⟩,  -- 162 LDRBT__immediate
  ⟨0x0F700010, 0x06700000⟩,  -- 163 LDRBT__register
  ⟨0x0E500000, 0x04500000⟩,  -- 164 LDRB__immediate__literal
  ⟨0x0E500010, 0x06500000⟩,  -- 165 LDRB__register
  ⟨0x0F800010, 0x06000010⟩,  -- 166 parallel_add_subtract__SADD16_..._UHSAX
  ⟨0x0FF00030, 0x06800010⟩,  -- 167 PKHBT__PKHTB
  ⟨0x0FFF00F0, 0x068F0070⟩,  -- 168 SXTB16
  ⟨0x0FF000F0, 0x06800070⟩,  -- 169 SXTAB16
  ⟨0x0FFF00F0, 0x06AF0070⟩,  -- 170 SXTB
  ⟨0x0FF000F0, 0x06A00070⟩,  -- 171 SXTAB
  ⟨0x0FFF00F0, 0x06BF0070⟩,  -- 172 SXTH
  ⟨0x0FF000F0, 0x06B00070⟩,  -- 173 SXTAH
  ⟨0x0FFF00F0, 0x06CF0070⟩,  -- 174 UXTB16
  ⟨0x0FF000F0, 0x06C00070⟩,  -- 175 UXTAB16
  ⟨0x0FFF00F0, 0x06EF0070⟩,  -- 176 UXTB
  ⟨0x0FF000F0, 0x06E00070⟩,  -- 177 UXTAB
  ⟨0x0FFF00F0, 0x06FF0070⟩,  -- 178 UXTH
  ⟨0x0FF000F0, 0x06F00070⟩]  -- 179 UXTAH

/-- Rows 180 to 199. -/
def patterns9 : List Pattern := [
  ⟨0x0FF000F0, 0x068000B0⟩,  -- 180 SEL
  ⟨0x0FF000F0, 0x06A00030⟩,  -- 181 SSAT16
  ⟨0x0FE00030, 0x06A00010⟩,  -- 182 SSAT
  ⟨0x0FF000F0, 0x06B00030⟩,  -- 183 REV
  ⟨0x0FF000F0, 0x06B000B0⟩,  -- 184 REV16
  ⟨0x0FF000F0, 0x06E00030⟩,  -- 185 USAT16
  ⟨0x0FE00030, 0x06E00010⟩,  -- 186 USAT
  ⟨0x0FF000F0, 0x06F00030⟩,  -- 187 RBIT
  ⟨0x0FF000F0, 0x06F000B0⟩,  -- 188 REVSH
  ⟨0x0F800010, 0x07000010⟩,  -- 189 signed_multiplies__SMLAD_..._SMMLS___SDIV_UDIV_space
  ⟨0x0FF000F0, 0x07800010⟩,  -- 190 USAD8__USADA8
  ⟨0x0FE00070, 0x07A00050⟩,  -- 191 SBFX
  ⟨0x0FE0007F, 0x07C0001F⟩,  -- 192 BFC
  ⟨0x0FE00070, 0x07C00010⟩,  -- 193 BFI
  ⟨0x0FF000F0, 0x07F000F0⟩,  -- 194 UDF
  ⟨0x0FE00070, 0x07E00050⟩,  -- 195 UBFX
  ⟨0x0E508000, 0x08508000⟩,  -- 196 LDM__exception_return
  ⟨0x0E508000, 0x08500000⟩,  -- 197 LDM__user_registers
  ⟨0x0E500000, 0x08400000⟩,  -- 198 STM__user_registers
  ⟨0x0FD00000, 0x08000000⟩]  -- 199 STMDA

/-- Rows 200 to 219. -/
def patterns10 : List Pattern := [
  ⟨0x0FD00000, 0x08100000⟩,  -- 200 LDMDA
  ⟨0x0FD00000, 0x08800000⟩,  -- 201 STM__STMIA
  ⟨0x0FD00000, 0x08900000⟩,  -- 202 LDM__LDMIA__POP
  ⟨0x0FD00000, 0x09000000⟩,  -- 203 STMDB__PUSH
  ⟨0x0FD00000, 0x09100000⟩,  -- 204 LDMDB
  ⟨0x0FD00000, 0x09800000⟩,  -- 205 STMIB
  ⟨0x0FD00000, 0x09900000⟩,  -- 206 LDMIB
  ⟨0x0F000000, 0x0A000000⟩,  -- 207 B
  ⟨0x0F000000, 0x0B000000⟩,  -- 208 BL
  ⟨0x0FE00000, 0x0C000000⟩,  -- 209 UNDEFINED__coprocessor_op1_00000x
  ⟨0x0F000000, 0x0F000000⟩,  -- 210 SVC
  ⟨0x0E000E00, 0x0C000A00⟩,  -- 211 VFP_Advanced_SIMD__coprocessor_10_11__load_store_and_64-
  ⟨0x0F000E00, 0x0E000A00⟩,  -- 212 VFP_Advanced_SIMD__coprocessor_10_11__CDP_MCR_MRC_forms
  ⟨0x0F100F10, 0x0E000F10⟩,  -- 213 MCR_p15
  ⟨0x0F100F10, 0x0E100F10⟩,  -- 214 MRC_p15
  ⟨0x0FE00000, 0x0C400000⟩,  -- 215 MCRR__MRRC
  ⟨0x0E000000, 0x0C000000⟩,  -- 216 STC__LDC
  ⟨0x0F000010, 0x0E000000⟩,  -- 217 CDP
  ⟨0x0F000010, 0x0E000010⟩,  -- 218 MCR__MRC__coprocessors_other_than_10__11__15
  ⟨0x00000000, 0x00000000⟩]  -- 219 UNDEFINED__any_word_matched_by_no_earlier_row

/-- The rows of the table, in the table's order. -/
def patterns : List Pattern :=
  patterns0 ++ patterns1 ++ patterns2 ++ patterns3 ++ patterns4 ++ patterns5 ++ patterns6 ++ patterns7 ++ patterns8 ++ patterns9 ++ patterns10

/-- The position of the first pattern that matches. -/
def firstRow (w : Word) : List Pattern → Nat
  | [] => 0
  | p :: ps => if p.hits w then 0 else firstRow w ps + 1

/-- The row of a word (R161): the first of the table's rows that matches it. -/
def rowIndex (w : Word) : Nat := firstRow w patterns

end Sys2Proof.Machine
end

