-- ==== Sys2Proof/Syntax.lean ====
section
/-! DEFINITION. The instructions: one constructor of `Instr` for each row of spec/opcode_table.json, in the table's
order, and one structure for each operand layout of the formats of spec/30_encoding.md (R164 to R178, R180).
A structure holds EVERY bit of the word that the row does not fix, so that decoding loses nothing: the named
operands, the should-be fields (`sbz<hi>_<lo>` should be zero, `sbo<hi>_<lo>` should be one, R190) and the bits the
spec gives no meaning (`x<hi>_<lo>`). A row without operands that the core reads (an UNDEFINED, UNPREDICTABLE,
NotImplemented or SIMDorVFP row, an unallocated memory hint) holds the word itself. -/

namespace Sys2Proof

/-- CPS (R176, R453). -/
structure CpsOp where
  imod : BitVec 2
  m : Bool
  sbz15_9 : BitVec 7
  a : Bool
  i : Bool
  f : Bool
  mode : BitVec 5
  deriving DecidableEq, Repr

/-- SETEND (R176, R454). -/
structure SetendOp where
  sbz15_10 : BitVec 6
  e : Bool
  sbz8 : BitVec 1
  sbz3_0 : BitVec 4
  deriving DecidableEq, Repr

/-- PLD, PLDW, PLI immediate and literal (R176). -/
structure PreloadImm where
  u : Bool
  rn : Reg
  sbo15_12 : BitVec 4
  imm12 : BitVec 12
  deriving DecidableEq, Repr

/-- PLD, PLDW, PLI register (R176). -/
structure PreloadReg where
  u : Bool
  rn : Reg
  sbo15_12 : BitVec 4
  imm5 : BitVec 5
  type : BitVec 2
  rm : Reg
  deriving DecidableEq, Repr

/-- CLREX (R176). -/
structure ClrexOp where
  sbo19_12 : BitVec 8
  sbz11_8 : BitVec 4
  sbo3_0 : BitVec 4
  deriving DecidableEq, Repr

/-- DSB, DMB, ISB (R176). -/
structure BarrierOp where
  sbo19_12 : BitVec 8
  sbz11_8 : BitVec 4
  option : BitVec 4
  deriving DecidableEq, Repr

/-- BLX immediate (R175, R405). -/
structure BlxImmOp where
  h : Bool
  imm24 : BitVec 24
  deriving DecidableEq, Repr

/-- MCRR2, MRRC2 (R175). -/
structure Mcrr2Op where
  l : Bool
  x19_12 : BitVec 8
  coproc : BitVec 4
  x7_0 : BitVec 8
  deriving DecidableEq, Repr

/-- STC2, LDC2 (R175). -/
structure Stc2Op where
  p : Bool
  u : Bool
  d : Bool
  w : Bool
  l : Bool
  rn : Reg
  x15_12 : BitVec 4
  coproc : BitVec 4
  imm8 : BitVec 8
  deriving DecidableEq, Repr

/-- CDP2 (R175). -/
structure Cdp2Op where
  x23_12 : BitVec 12
  coproc : BitVec 4
  x7_5 : BitVec 3
  x3_0 : BitVec 4
  deriving DecidableEq, Repr

/-- MCR2, MRC2 (R175). -/
structure Mcr2Op where
  x23_21 : BitVec 3
  l : Bool
  x19_12 : BitVec 8
  coproc : BitVec 4
  x7_5 : BitVec 3
  x3_0 : BitVec 4
  deriving DecidableEq, Repr

/-- MRS (R171, R450). -/
structure MrsOp where
  cond : Cond
  r : Bool
  sbo19_16 : BitVec 4
  rd : Reg
  sbz11_10 : BitVec 2
  sbz8 : BitVec 1
  sbz3_0 : BitVec 4
  deriving DecidableEq, Repr

/-- MSR register (R171, R452). -/
structure MsrRegOp where
  cond : Cond
  r : Bool
  mask : BitVec 4
  sbo15_12 : BitVec 4
  sbz11_10 : BitVec 2
  sbz8 : BitVec 1
  rn : Reg
  deriving DecidableEq, Repr

/-- BX, BXJ, BLX register (R171). -/
structure BxOp where
  cond : Cond
  sbo19_8 : BitVec 12
  rm : Reg
  deriving DecidableEq, Repr

/-- CLZ (R171) and the reversals REV, REV16, REVSH (R174). -/
structure UnaryOp where
  cond : Cond
  sbo19_16 : BitVec 4
  rd : Reg
  sbo11_8 : BitVec 4
  rm : Reg
  deriving DecidableEq, Repr

/-- QADD, QSUB, QDADD, QDSUB (R171). -/
structure QaddOp where
  cond : Cond
  op : BitVec 2
  rn : Reg
  rd : Reg
  sbz11_8 : BitVec 4
  rm : Reg
  deriving DecidableEq, Repr

/-- BKPT (R171) and UDF (R174): an immediate the core ignores. -/
structure TrapOp where
  cond : Cond
  imm12 : BitVec 12
  imm4 : BitVec 4
  deriving DecidableEq, Repr

/-- SMC (R171). -/
structure SmcOp where
  cond : Cond
  sbz19_8 : BitVec 12
  imm4 : BitVec 4
  deriving DecidableEq, Repr

/-- MUL (R167). -/
structure MulOp where
  cond : Cond
  s : Bool
  rd : Reg
  sbz15_12 : BitVec 4
  rm : Reg
  rn : Reg
  deriving DecidableEq, Repr

/-- MLA (R167). -/
structure MlaOp where
  cond : Cond
  s : Bool
  rd : Reg
  ra : Reg
  rm : Reg
  rn : Reg
  deriving DecidableEq, Repr

/-- MLS (R167): no S bit. -/
structure MlsOp where
  cond : Cond
  rd : Reg
  ra : Reg
  rm : Reg
  rn : Reg
  deriving DecidableEq, Repr

/-- UMULL, UMLAL, SMULL, SMLAL (R167). -/
structure MulLongOp where
  cond : Cond
  s : Bool
  rdHi : Reg
  rdLo : Reg
  rm : Reg
  rn : Reg
  deriving DecidableEq, Repr

/-- SWP, SWPB (R168). -/
structure SwpOp where
  cond : Cond
  b : Bool
  rn : Reg
  rt : Reg
  sbz11_8 : BitVec 4
  rm : Reg
  deriving DecidableEq, Repr

/-- STREX (R168). -/
structure StrexOp where
  cond : Cond
  rn : Reg
  rd : Reg
  sbo11_8 : BitVec 4
  rt : Reg
  deriving DecidableEq, Repr

/-- LDREX (R168). -/
structure LdrexOp where
  cond : Cond
  rn : Reg
  rt : Reg
  sbo11_8 : BitVec 4
  sbo3_0 : BitVec 4
  deriving DecidableEq, Repr

/-- Extra load/store, immediate (R169). -/
structure ExtraImm where
  cond : Cond
  p : Bool
  u : Bool
  w : Bool
  rn : Reg
  rt : Reg
  imm4H : BitVec 4
  imm4L : BitVec 4
  deriving DecidableEq, Repr

/-- Extra load/store, register (R169). -/
structure ExtraReg where
  cond : Cond
  p : Bool
  u : Bool
  w : Bool
  rn : Reg
  rt : Reg
  sbz11_8 : BitVec 4
  rm : Reg
  deriving DecidableEq, Repr

/-- Extra load/store unprivileged, immediate (R170). -/
structure ExtraTImm where
  cond : Cond
  u : Bool
  rn : Reg
  rt : Reg
  imm4H : BitVec 4
  imm4L : BitVec 4
  deriving DecidableEq, Repr

/-- Extra load/store unprivileged, register (R170). -/
structure ExtraTReg where
  cond : Cond
  u : Bool
  rn : Reg
  rt : Reg
  sbz11_8 : BitVec 4
  rm : Reg
  deriving DecidableEq, Repr

/-- MOVW, MOVT (R163, R255, R256). -/
structure MovwOp where
  cond : Cond
  imm4 : BitVec 4
  rd : Reg
  imm12 : BitVec 12
  deriving DecidableEq, Repr

/-- NOP, YIELD, WFE, WFI, SEV (R172). -/
structure HintOp where
  cond : Cond
  sbo15_12 : BitVec 4
  sbz11_8 : BitVec 4
  deriving DecidableEq, Repr

/-- DBG (R172). -/
structure DbgOp where
  cond : Cond
  sbo15_12 : BitVec 4
  sbz11_8 : BitVec 4
  option : BitVec 4
  deriving DecidableEq, Repr

/-- An unallocated hint (R172, R465). -/
structure HintUnallocOp where
  cond : Cond
  sbo15_12 : BitVec 4
  sbz11_8 : BitVec 4
  hint : BitVec 8
  deriving DecidableEq, Repr

/-- MSR immediate (R172). -/
structure MsrImmOp where
  cond : Cond
  r : Bool
  mask : BitVec 4
  sbo15_12 : BitVec 4
  imm12 : BitVec 12
  deriving DecidableEq, Repr

/-- Data processing, immediate (R166). -/
structure DpImm where
  cond : Cond
  s : Bool
  rn : Reg
  rd : Reg
  imm12 : BitVec 12
  deriving DecidableEq, Repr

/-- Data processing, register (R164). -/
structure DpReg where
  cond : Cond
  s : Bool
  rn : Reg
  rd : Reg
  imm5 : BitVec 5
  type : BitVec 2
  rm : Reg
  deriving DecidableEq, Repr

/-- Data processing, register-shifted register (R165). -/
structure DpRsr where
  cond : Cond
  s : Bool
  rn : Reg
  rd : Reg
  rs : Reg
  type : BitVec 2
  rm : Reg
  deriving DecidableEq, Repr

/-- TST, TEQ, CMP, CMN immediate (R166, R224). -/
structure CmpImm where
  cond : Cond
  rn : Reg
  sbz15_12 : BitVec 4
  imm12 : BitVec 12
  deriving DecidableEq, Repr

/-- TST, TEQ, CMP, CMN register (R164, R224). -/
structure CmpReg where
  cond : Cond
  rn : Reg
  sbz15_12 : BitVec 4
  imm5 : BitVec 5
  type : BitVec 2
  rm : Reg
  deriving DecidableEq, Repr

/-- TST, TEQ, CMP, CMN register-shifted register (R165, R224). -/
structure CmpRsr where
  cond : Cond
  rn : Reg
  sbz15_12 : BitVec 4
  rs : Reg
  type : BitVec 2
  rm : Reg
  deriving DecidableEq, Repr

/-- MOV, MVN immediate (R166, R224). -/
structure MovImm where
  cond : Cond
  s : Bool
  sbz19_16 : BitVec 4
  rd : Reg
  imm12 : BitVec 12
  deriving DecidableEq, Repr

/-- MOV register and RRX (R164, R224). -/
structure MovReg where
  cond : Cond
  s : Bool
  sbz19_16 : BitVec 4
  rd : Reg
  rm : Reg
  deriving DecidableEq, Repr

/-- LSL, LSR, ASR, ROR immediate (R164, R224). -/
structure ShiftImm where
  cond : Cond
  s : Bool
  sbz19_16 : BitVec 4
  rd : Reg
  imm5 : BitVec 5
  rm : Reg
  deriving DecidableEq, Repr

/-- LSL, LSR, ASR, ROR register (R165, R224). -/
structure ShiftReg where
  cond : Cond
  s : Bool
  sbz19_16 : BitVec 4
  rd : Reg
  rs : Reg
  rm : Reg
  deriving DecidableEq, Repr

/-- MVN register (R164, R224). -/
structure MvnReg where
  cond : Cond
  s : Bool
  sbz19_16 : BitVec 4
  rd : Reg
  imm5 : BitVec 5
  type : BitVec 2
  rm : Reg
  deriving DecidableEq, Repr

/-- MVN register-shifted register (R165, R224). -/
structure MvnRsr where
  cond : Cond
  s : Bool
  sbz19_16 : BitVec 4
  rd : Reg
  rs : Reg
  type : BitVec 2
  rm : Reg
  deriving DecidableEq, Repr

/-- Load/store word and byte, immediate (R173). -/
structure LsImm where
  cond : Cond
  p : Bool
  u : Bool
  w : Bool
  rn : Reg
  rt : Reg
  imm12 : BitVec 12
  deriving DecidableEq, Repr

/-- Load/store word and byte, register (R173). -/
structure LsReg where
  cond : Cond
  p : Bool
  u : Bool
  w : Bool
  rn : Reg
  rt : Reg
  imm5 : BitVec 5
  type : BitVec 2
  rm : Reg
  deriving DecidableEq, Repr

/-- Load/store word and byte unprivileged, immediate (R173). -/
structure LsTImm where
  cond : Cond
  u : Bool
  rn : Reg
  rt : Reg
  imm12 : BitVec 12
  deriving DecidableEq, Repr

/-- Load/store word and byte unprivileged, register (R173). -/
structure LsTReg where
  cond : Cond
  u : Bool
  rn : Reg
  rt : Reg
  imm5 : BitVec 5
  type : BitVec 2
  rm : Reg
  deriving DecidableEq, Repr

/-- SXTB, SXTH, SXTB16, UXTB, UXTH, UXTB16 (R174). -/
structure ExtendOp where
  cond : Cond
  rd : Reg
  rotate : BitVec 2
  sbz9_8 : BitVec 2
  rm : Reg
  deriving DecidableEq, Repr

/-- SXTAB, SXTAH, SXTAB16, UXTAB, UXTAH, UXTAB16 (R174). -/
structure ExtendAddOp where
  cond : Cond
  rn : Reg
  rd : Reg
  rotate : BitVec 2
  sbz9_8 : BitVec 2
  rm : Reg
  deriving DecidableEq, Repr

/-- SBFX, UBFX (R174). -/
structure BfxOp where
  cond : Cond
  widthm1 : BitVec 5
  rd : Reg
  lsb : BitVec 5
  rn : Reg
  deriving DecidableEq, Repr

/-- BFC (R174). -/
structure BfcOp where
  cond : Cond
  msb : BitVec 5
  rd : Reg
  lsb : BitVec 5
  deriving DecidableEq, Repr

/-- BFI (R174). -/
structure BfiOp where
  cond : Cond
  msb : BitVec 5
  rd : Reg
  lsb : BitVec 5
  rn : Reg
  deriving DecidableEq, Repr

/-- LDM exception return (R177). -/
structure LdmExcOp where
  cond : Cond
  p : Bool
  u : Bool
  w : Bool
  rn : Reg
  registers : BitVec 15
  deriving DecidableEq, Repr

/-- LDM user registers (R177). -/
structure LdmUserOp where
  cond : Cond
  p : Bool
  u : Bool
  sbz21 : BitVec 1
  rn : Reg
  registers : BitVec 15
  deriving DecidableEq, Repr

/-- STM user registers (R177). -/
structure StmUserOp where
  cond : Cond
  p : Bool
  u : Bool
  sbz21 : BitVec 1
  rn : Reg
  registers : BitVec 16
  deriving DecidableEq, Repr

/-- LDM and STM (R177). -/
structure BlockOp where
  cond : Cond
  w : Bool
  rn : Reg
  registers : BitVec 16
  deriving DecidableEq, Repr

/-- B, BL (R177) and SVC (R178). -/
structure BranchOp where
  cond : Cond
  imm24 : BitVec 24
  deriving DecidableEq, Repr

/-- MCR and MRC to coprocessor 15 (R178). -/
structure Cp15Op where
  cond : Cond
  opc1 : BitVec 3
  crn : BitVec 4
  rt : Reg
  opc2 : BitVec 3
  crm : BitVec 4
  deriving DecidableEq, Repr

/-- MCRR, MRRC (R178). -/
structure McrrOp where
  cond : Cond
  l : Bool
  x19_12 : BitVec 8
  coproc : BitVec 4
  x7_0 : BitVec 8
  deriving DecidableEq, Repr

/-- STC, LDC (R178). -/
structure StcOp where
  cond : Cond
  p : Bool
  u : Bool
  d : Bool
  w : Bool
  l : Bool
  rn : Reg
  x15_12 : BitVec 4
  coproc : BitVec 4
  imm8 : BitVec 8
  deriving DecidableEq, Repr

/-- CDP (R178). -/
structure CdpOp where
  cond : Cond
  x23_12 : BitVec 12
  coproc : BitVec 4
  x7_5 : BitVec 3
  x3_0 : BitVec 4
  deriving DecidableEq, Repr

/-- MCR, MRC to a coprocessor other than 10, 11 and 15 (R178). -/
structure McrOtherOp where
  cond : Cond
  x23_21 : BitVec 3
  l : Bool
  x19_12 : BitVec 8
  coproc : BitVec 4
  x7_5 : BitVec 3
  x3_0 : BitVec 4
  deriving DecidableEq, Repr

/-- The instructions of the opcode table, row by row; each docstring gives the row's `order`, its mnemonic and its rule. -/
inductive Instr where
  /-- 0: CPS (R453) -/
  | cps (o : CpsOp)
  /-- 1: SETEND (R454) -/
  | setend (o : SetendOp)
  /-- 2: SIMD_data-processing (R193) -/
  | simdDataProcessing (w : Word)
  /-- 3: SIMD_element_structure_load_store (R193) -/
  | simdLoadStore (w : Word)
  /-- 4: unallocated_memory_hint__immediate (R476) -/
  | memHintImm (w : Word)
  /-- 5: PLI__immediate__literal (R475) -/
  | pliImm (o : PreloadImm)
  /-- 6: UNPREDICTABLE__PLDW_immediate__Rn___1111 (R190) -/
  | unpredPldwImm (w : Word)
  /-- 7: PLDW__immediate (R474) -/
  | pldwImm (o : PreloadImm)
  /-- 8: PLD__immediate__literal (R473) -/
  | pldImm (o : PreloadImm)
  /-- 9: UNPREDICTABLE__unconditional_1010011 (R190) -/
  | unpredUncond1010011 (w : Word)
  /-- 10: CLREX (R482) -/
  | clrex (o : ClrexOp)
  /-- 11: DSB (R471) -/
  | dsb (o : BarrierOp)
  /-- 12: DMB (R470) -/
  | dmb (o : BarrierOp)
  /-- 13: ISB (R472) -/
  | isb (o : BarrierOp)
  /-- 14: UNPREDICTABLE__unconditional_1010111__other_op2 (R190) -/
  | unpredUncond1010111 (w : Word)
  /-- 15: UNPREDICTABLE__unconditional_1011x11 (R190) -/
  | unpredUncond1011x11 (w : Word)
  /-- 16: unallocated_memory_hint__register (R476) -/
  | memHintReg (w : Word)
  /-- 17: PLI__register (R475) -/
  | pliReg (o : PreloadReg)
  /-- 18: PLDW__register (R474) -/
  | pldwReg (o : PreloadReg)
  /-- 19: PLD__register (R473) -/
  | pldReg (o : PreloadReg)
  /-- 20: UNPREDICTABLE__unconditional_11xxx11__op2___xxx0 (R190) -/
  | unpredUncond11xxx11 (w : Word)
  /-- 21: UNDEFINED__unconditional_0xxxxxxx__other (R191) -/
  | undefUncondMisc (w : Word)
  /-- 22: SRS (R192) -/
  | srs (w : Word)
  /-- 23: RFE (R192) -/
  | rfe (w : Word)
  /-- 24: BLX__immediate (R405) -/
  | blxImm (o : BlxImmOp)
  /-- 25: UNDEFINED__unconditional_1100000x (R191) -/
  | undefUncond1100000 (w : Word)
  /-- 26: coprocessor_10_11__unconditional_LDC2_STC2_MCRR2_MRRC2_f (R193) -/
  | vfpUncondLoadStore (w : Word)
  /-- 27: coprocessor_10_11__unconditional_CDP2_MCR2_MRC2_forms (R193) -/
  | vfpUncondData (w : Word)
  /-- 28: MCRR2__MRRC2 (R496) -/
  | mcrr2 (o : Mcrr2Op)
  /-- 29: STC2__LDC2 (R496) -/
  | stc2 (o : Stc2Op)
  /-- 30: CDP2 (R496) -/
  | cdp2 (o : Cdp2Op)
  /-- 31: MCR2__MRC2 (R496) -/
  | mcr2 (o : Mcr2Op)
  /-- 32: UNDEFINED__unconditional__other (R191) -/
  | undefUncondOther (w : Word)
  /-- 33: MRS_MSR__banked_register (R191) -/
  | mrsMsrBanked (w : Word)
  /-- 34: MRS (R450) -/
  | mrs (o : MrsOp)
  /-- 35: MSR__register (R452) -/
  | msrReg (o : MsrRegOp)
  /-- 36: BX (R402) -/
  | bx (o : BxOp)
  /-- 37: CLZ (R300) -/
  | clz (o : UnaryOp)
  /-- 38: BXJ (R404) -/
  | bxj (o : BxOp)
  /-- 39: BLX__register (R403) -/
  | blxReg (o : BxOp)
  /-- 40: QADD__QSUB__QDADD__QDSUB (R192) -/
  | qadd (o : QaddOp)
  /-- 41: ERET (R191) -/
  | eret (w : Word)
  /-- 42: BKPT (R502) -/
  | bkpt (o : TrapOp)
  /-- 43: HVC (R191) -/
  | hvc (w : Word)
  /-- 44: SMC (R503) -/
  | smc (o : SmcOp)
  /-- 45: halfword_multiplies__SMLA_x__y___SMLAW_y___SMULW_y___SML (R192) -/
  | halfwordMultiply (w : Word)
  /-- 46: UNDEFINED__miscellaneous__other (R191) -/
  | undefMisc (w : Word)
  /-- 47: MUL (R280) -/
  | mul (o : MulOp)
  /-- 48: MLA (R281) -/
  | mla (o : MlaOp)
  /-- 49: UMAAL (R287) -/
  | umaal (w : Word)
  /-- 50: UNDEFINED__multiply_op_0101 (R287) -/
  | undefMultiply0101 (w : Word)
  /-- 51: MLS (R282) -/
  | mls (o : MlsOp)
  /-- 52: UNDEFINED__multiply_op_0111 (R287) -/
  | undefMultiply0111 (w : Word)
  /-- 53: UMULL (R283) -/
  | umull (o : MulLongOp)
  /-- 54: UMLAL (R284) -/
  | umlal (o : MulLongOp)
  /-- 55: SMULL (R285) -/
  | smull (o : MulLongOp)
  /-- 56: SMLAL (R286) -/
  | smlal (o : MulLongOp)
  /-- 57: SWP__SWPB (R192) -/
  | swp (o : SwpOp)
  /-- 58: STREX (R481) -/
  | strex (o : StrexOp)
  /-- 59: LDREX (R480) -/
  | ldrex (o : LdrexOp)
  /-- 60: STREXD__LDREXD__STREXB__LDREXB__STREXH__LDREXH (R192) -/
  | exclusiveWidths (w : Word)
  /-- 61: UNDEFINED__synchronization__other (R191) -/
  | undefSync (w : Word)
  /-- 62: UNPREDICTABLE__LDRD_STRD_post-indexed_with_W___1 (R190) -/
  | unpredLdrdStrd (w : Word)
  /-- 63: STRHT__immediate (R365) -/
  | strhtImm (o : ExtraTImm)
  /-- 64: STRHT__register (R365) -/
  | strhtReg (o : ExtraTReg)
  /-- 65: STRH__immediate (R361) -/
  | strhImm (o : ExtraImm)
  /-- 66: STRH__register (R361) -/
  | strhReg (o : ExtraReg)
  /-- 67: LDRHT__immediate (R364) -/
  | ldrhtImm (o : ExtraTImm)
  /-- 68: LDRHT__register (R364) -/
  | ldrhtReg (o : ExtraTReg)
  /-- 69: LDRH__immediate__literal (R360) -/
  | ldrhImm (o : ExtraImm)
  /-- 70: LDRH__register (R360) -/
  | ldrhReg (o : ExtraReg)
  /-- 71: LDRD__immediate__literal (R368) -/
  | ldrdImm (o : ExtraImm)
  /-- 72: LDRD__register (R368) -/
  | ldrdReg (o : ExtraReg)
  /-- 73: LDRSBT__immediate (R366) -/
  | ldrsbtImm (o : ExtraTImm)
  /-- 74: LDRSBT__register (R366) -/
  | ldrsbtReg (o : ExtraTReg)
  /-- 75: LDRSB__immediate__literal (R362) -/
  | ldrsbImm (o : ExtraImm)
  /-- 76: LDRSB__register (R362) -/
  | ldrsbReg (o : ExtraReg)
  /-- 77: STRD__immediate (R369) -/
  | strdImm (o : ExtraImm)
  /-- 78: STRD__register (R369) -/
  | strdReg (o : ExtraReg)
  /-- 79: LDRSHT__immediate (R367) -/
  | ldrshtImm (o : ExtraTImm)
  /-- 80: LDRSHT__register (R367) -/
  | ldrshtReg (o : ExtraTReg)
  /-- 81: LDRSH__immediate__literal (R363) -/
  | ldrshImm (o : ExtraImm)
  /-- 82: LDRSH__register (R363) -/
  | ldrshReg (o : ExtraReg)
  /-- 83: MOVW (R255) -/
  | movw (o : MovwOp)
  /-- 84: MOVT (R256) -/
  | movt (o : MovwOp)
  /-- 85: NOP (R460) -/
  | nop (o : HintOp)
  /-- 86: YIELD (R461) -/
  | yield (o : HintOp)
  /-- 87: WFE (R462) -/
  | wfe (o : HintOp)
  /-- 88: WFI (R467) -/
  | wfi (o : HintOp)
  /-- 89: SEV (R463) -/
  | sev (o : HintOp)
  /-- 90: DBG (R464) -/
  | dbg (o : DbgOp)
  /-- 91: unallocated_hint (R465) -/
  | hintUnallocated (o : HintUnallocOp)
  /-- 92: UNPREDICTABLE__MSR_immediate__R___1__mask___0000 (R190) -/
  | unpredMsrImm (w : Word)
  /-- 93: MSR__immediate (R451) -/
  | msrImm (o : MsrImmOp)
  /-- 94: AND__immediate (R230) -/
  | andImm (o : DpImm)
  /-- 95: AND__register (R230) -/
  | andReg (o : DpReg)
  /-- 96: AND__register-shifted_register (R230) -/
  | andRsr (o : DpRsr)
  /-- 97: EOR__immediate (R231) -/
  | eorImm (o : DpImm)
  /-- 98: EOR__register (R231) -/
  | eorReg (o : DpReg)
  /-- 99: EOR__register-shifted_register (R231) -/
  | eorRsr (o : DpRsr)
  /-- 100: SUB__immediate (R232) -/
  | subImm (o : DpImm)
  /-- 101: SUB__register (R232) -/
  | subReg (o : DpReg)
  /-- 102: SUB__register-shifted_register (R232) -/
  | subRsr (o : DpRsr)
  /-- 103: RSB__immediate (R233) -/
  | rsbImm (o : DpImm)
  /-- 104: RSB__register (R233) -/
  | rsbReg (o : DpReg)
  /-- 105: RSB__register-shifted_register (R233) -/
  | rsbRsr (o : DpRsr)
  /-- 106: ADD__immediate (R234) -/
  | addImm (o : DpImm)
  /-- 107: ADD__register (R234) -/
  | addReg (o : DpReg)
  /-- 108: ADD__register-shifted_register (R234) -/
  | addRsr (o : DpRsr)
  /-- 109: ADC__immediate (R235) -/
  | adcImm (o : DpImm)
  /-- 110: ADC__register (R235) -/
  | adcReg (o : DpReg)
  /-- 111: ADC__register-shifted_register (R235) -/
  | adcRsr (o : DpRsr)
  /-- 112: SBC__immediate (R236) -/
  | sbcImm (o : DpImm)
  /-- 113: SBC__register (R236) -/
  | sbcReg (o : DpReg)
  /-- 114: SBC__register-shifted_register (R236) -/
  | sbcRsr (o : DpRsr)
  /-- 115: RSC__immediate (R237) -/
  | rscImm (o : DpImm)
  /-- 116: RSC__register (R237) -/
  | rscReg (o : DpReg)
  /-- 117: RSC__register-shifted_register (R237) -/
  | rscRsr (o : DpRsr)
  /-- 118: TST__immediate (R238) -/
  | tstImm (o : CmpImm)
  /-- 119: TST__register (R238) -/
  | tstReg (o : CmpReg)
  /-- 120: TST__register-shifted_register (R238) -/
  | tstRsr (o : CmpRsr)
  /-- 121: TEQ__immediate (R239) -/
  | teqImm (o : CmpImm)
  /-- 122: TEQ__register (R239) -/
  | teqReg (o : CmpReg)
  /-- 123: TEQ__register-shifted_register (R239) -/
  | teqRsr (o : CmpRsr)
  /-- 124: CMP__immediate (R240) -/
  | cmpImm (o : CmpImm)
  /-- 125: CMP__register (R240) -/
  | cmpReg (o : CmpReg)
  /-- 126: CMP__register-shifted_register (R240) -/
  | cmpRsr (o : CmpRsr)
  /-- 127: CMN__immediate (R241) -/
  | cmnImm (o : CmpImm)
  /-- 128: CMN__register (R241) -/
  | cmnReg (o : CmpReg)
  /-- 129: CMN__register-shifted_register (R241) -/
  | cmnRsr (o : CmpRsr)
  /-- 130: ORR__immediate (R242) -/
  | orrImm (o : DpImm)
  /-- 131: ORR__register (R242) -/
  | orrReg (o : DpReg)
  /-- 132: ORR__register-shifted_register (R242) -/
  | orrRsr (o : DpRsr)
  /-- 133: MOV__immediate (R243) -/
  | movImm (o : MovImm)
  /-- 134: MOV__register (R243) -/
  | movReg (o : MovReg)
  /-- 135: RRX (R250) -/
  | rrx (o : MovReg)
  /-- 136: LSL__immediate (R246) -/
  | lslImm (o : ShiftImm)
  /-- 137: LSR__immediate (R247) -/
  | lsrImm (o : ShiftImm)
  /-- 138: ASR__immediate (R248) -/
  | asrImm (o : ShiftImm)
  /-- 139: ROR__immediate (R249) -/
  | rorImm (o : ShiftImm)
  /-- 140: LSL__register (R251) -/
  | lslReg (o : ShiftReg)
  /-- 141: LSR__register (R252) -/
  | lsrReg (o : ShiftReg)
  /-- 142: ASR__register (R253) -/
  | asrReg (o : ShiftReg)
  /-- 143: ROR__register (R254) -/
  | rorReg (o : ShiftReg)
  /-- 144: BIC__immediate (R244) -/
  | bicImm (o : DpImm)
  /-- 145: BIC__register (R244) -/
  | bicReg (o : DpReg)
  /-- 146: BIC__register-shifted_register (R244) -/
  | bicRsr (o : DpRsr)
  /-- 147: MVN__immediate (R245) -/
  | mvnImm (o : MovImm)
  /-- 148: MVN__register (R245) -/
  | mvnReg (o : MvnReg)
  /-- 149: MVN__register-shifted_register (R245) -/
  | mvnRsr (o : MvnRsr)
  /-- 150: STRT__immediate (R356) -/
  | strtImm (o : LsTImm)
  /-- 151: STRT__register (R356) -/
  | strtReg (o : LsTReg)
  /-- 152: STR__immediate (R352) -/
  | strImm (o : LsImm)
  /-- 153: STR__register (R352) -/
  | strReg (o : LsReg)
  /-- 154: LDRT__immediate (R354) -/
  | ldrtImm (o : LsTImm)
  /-- 155: LDRT__register (R354) -/
  | ldrtReg (o : LsTReg)
  /-- 156: LDR__immediate__literal (R350) -/
  | ldrImm (o : LsImm)
  /-- 157: LDR__register (R350) -/
  | ldrReg (o : LsReg)
  /-- 158: STRBT__immediate (R357) -/
  | strbtImm (o : LsTImm)
  /-- 159: STRBT__register (R357) -/
  | strbtReg (o : LsTReg)
  /-- 160: STRB__immediate (R353) -/
  | strbImm (o : LsImm)
  /-- 161: STRB__register (R353) -/
  | strbReg (o : LsReg)
  /-- 162: LDRBT__immediate (R355) -/
  | ldrbtImm (o : LsTImm)
  /-- 163: LDRBT__register (R355) -/
  | ldrbtReg (o : LsTReg)
  /-- 164: LDRB__immediate__literal (R351) -/
  | ldrbImm (o : LsImm)
  /-- 165: LDRB__register (R351) -/
  | ldrbReg (o : LsReg)
  /-- 166: parallel_add_subtract__SADD16_..._UHSAX (R192) -/
  | parallelAddSub (w : Word)
  /-- 167: PKHBT__PKHTB (R192) -/
  | pkh (w : Word)
  /-- 168: SXTB16 (R307) -/
  | sxtb16 (o : ExtendOp)
  /-- 169: SXTAB16 (R310) -/
  | sxtab16 (o : ExtendAddOp)
  /-- 170: SXTB (R305) -/
  | sxtb (o : ExtendOp)
  /-- 171: SXTAB (R308) -/
  | sxtab (o : ExtendAddOp)
  /-- 172: SXTH (R306) -/
  | sxth (o : ExtendOp)
  /-- 173: SXTAH (R309) -/
  | sxtah (o : ExtendAddOp)
  /-- 174: UXTB16 (R313) -/
  | uxtb16 (o : ExtendOp)
  /-- 175: UXTAB16 (R316) -/
  | uxtab16 (o : ExtendAddOp)
  /-- 176: UXTB (R311) -/
  | uxtb (o : ExtendOp)
  /-- 177: UXTAB (R314) -/
  | uxtab (o : ExtendAddOp)
  /-- 178: UXTH (R312) -/
  | uxth (o : ExtendOp)
  /-- 179: UXTAH (R315) -/
  | uxtah (o : ExtendAddOp)
  /-- 180: SEL (R192) -/
  | sel (w : Word)
  /-- 181: SSAT16 (R192) -/
  | ssat16 (w : Word)
  /-- 182: SSAT (R192) -/
  | ssat (w : Word)
  /-- 183: REV (R317) -/
  | rev (o : UnaryOp)
  /-- 184: REV16 (R318) -/
  | rev16 (o : UnaryOp)
  /-- 185: USAT16 (R192) -/
  | usat16 (w : Word)
  /-- 186: USAT (R192) -/
  | usat (w : Word)
  /-- 187: RBIT (R192) -/
  | rbit (w : Word)
  /-- 188: REVSH (R319) -/
  | revsh (o : UnaryOp)
  /-- 189: signed_multiplies__SMLAD_..._SMMLS___SDIV_UDIV_space (R192) -/
  | signedMultiply (w : Word)
  /-- 190: USAD8__USADA8 (R192) -/
  | usad8 (w : Word)
  /-- 191: SBFX (R301) -/
  | sbfx (o : BfxOp)
  /-- 192: BFC (R304) -/
  | bfc (o : BfcOp)
  /-- 193: BFI (R303) -/
  | bfi (o : BfiOp)
  /-- 194: UDF (R501) -/
  | udf (o : TrapOp)
  /-- 195: UBFX (R302) -/
  | ubfx (o : BfxOp)
  /-- 196: LDM__exception_return (R421) -/
  | ldmExcReturn (o : LdmExcOp)
  /-- 197: LDM__user_registers (R422) -/
  | ldmUser (o : LdmUserOp)
  /-- 198: STM__user_registers (R423) -/
  | stmUser (o : StmUserOp)
  /-- 199: STMDA (R417) -/
  | stmda (o : BlockOp)
  /-- 200: LDMDA (R412) -/
  | ldmda (o : BlockOp)
  /-- 201: STM__STMIA (R418) -/
  | stm (o : BlockOp)
  /-- 202: LDM__LDMIA__POP (R413) -/
  | ldm (o : BlockOp)
  /-- 203: STMDB__PUSH (R419) -/
  | stmdb (o : BlockOp)
  /-- 204: LDMDB (R414) -/
  | ldmdb (o : BlockOp)
  /-- 205: STMIB (R420) -/
  | stmib (o : BlockOp)
  /-- 206: LDMIB (R415) -/
  | ldmib (o : BlockOp)
  /-- 207: B (R400) -/
  | b (o : BranchOp)
  /-- 208: BL (R401) -/
  | bl (o : BranchOp)
  /-- 209: UNDEFINED__coprocessor_op1_00000x (R191) -/
  | undefCoproc00000 (w : Word)
  /-- 210: SVC (R500) -/
  | svc (o : BranchOp)
  /-- 211: VFP_Advanced_SIMD__coprocessor_10_11__load_store_and_64- (R193) -/
  | vfpLoadStore (w : Word)
  /-- 212: VFP_Advanced_SIMD__coprocessor_10_11__CDP_MCR_MRC_forms (R193) -/
  | vfpData (w : Word)
  /-- 213: MCR_p15 (R490) -/
  | mcrP15 (o : Cp15Op)
  /-- 214: MRC_p15 (R491) -/
  | mrcP15 (o : Cp15Op)
  /-- 215: MCRR__MRRC (R496) -/
  | mcrr (o : McrrOp)
  /-- 216: STC__LDC (R496) -/
  | stc (o : StcOp)
  /-- 217: CDP (R496) -/
  | cdp (o : CdpOp)
  /-- 218: MCR__MRC__coprocessors_other_than_10__11__15 (R496) -/
  | mcrOther (o : McrOtherOp)
  /-- 219: UNDEFINED__any_word_matched_by_no_earlier_row (R191) -/
  | undefAnyOther (w : Word)
  deriving DecidableEq, Repr

end Sys2Proof
end

