-- ==== Sys2Proof/WellFormed.lean ====
section
/-! DEFINITION. The well-formed instructions: the terms that stand for a word of their own row, that is, those that
no earlier row of the opcode table takes (spec/opcode_table.json: first match wins; its `constraints` and `note`
columns). Whether a well-formed instruction is UNPREDICTABLE (R190) is not asked here: its meaning halts for that. -/

namespace Sys2Proof

open Machine (rowIndex)

/-- R178: coprocessor numbers 10 and 11 belong to the VFP and Advanced SIMD rows. -/
def vfpCoproc (c : BitVec 4) : Bool := c == 10 || c == 11

/-- R162: a condition field other than 1111, which belongs to the unconditional space. -/
def isCond (c : Cond) : Bool := c != condUnconditional

/-- R169, R173: P = 0 with W = 1 belongs to the unprivileged (or UNPREDICTABLE) rows. -/
def notPost (p w : Bool) : Bool := p || !w

/-- The terms of `Instr` that some word decodes to. -/
def Instr.wf : Instr → Bool
  | .cps _ => true
  | .setend _ => true
  | .simdDataProcessing w => rowIndex w == 2
  | .simdLoadStore w => rowIndex w == 3
  | .memHintImm w => rowIndex w == 4
  | .pliImm _ => true
  | .unpredPldwImm w => rowIndex w == 6
  | .pldwImm o => o.rn != 15
  | .pldImm _ => true
  | .unpredUncond1010011 w => rowIndex w == 9
  | .clrex _ => true
  | .dsb _ => true
  | .dmb _ => true
  | .isb _ => true
  | .unpredUncond1010111 w => rowIndex w == 14
  | .unpredUncond1011x11 w => rowIndex w == 15
  | .memHintReg w => rowIndex w == 16
  | .pliReg _ => true
  | .pldwReg _ => true
  | .pldReg _ => true
  | .unpredUncond11xxx11 w => rowIndex w == 20
  | .undefUncondMisc w => rowIndex w == 21
  | .srs w => rowIndex w == 22
  | .rfe w => rowIndex w == 23
  | .blxImm _ => true
  | .undefUncond1100000 w => rowIndex w == 25
  | .vfpUncondLoadStore w => rowIndex w == 26
  | .vfpUncondData w => rowIndex w == 27
  | .mcrr2 o => !vfpCoproc o.coproc
  | .stc2 o => !vfpCoproc o.coproc && (o.p || o.u || o.w)
  | .cdp2 o => !vfpCoproc o.coproc
  | .mcr2 o => !vfpCoproc o.coproc
  | .undefUncondOther w => rowIndex w == 32
  | .mrsMsrBanked w => rowIndex w == 33
  | .mrs o => isCond o.cond
  | .msrReg o => isCond o.cond
  | .bx o => isCond o.cond
  | .clz o => isCond o.cond
  | .bxj o => isCond o.cond
  | .blxReg o => isCond o.cond
  | .qadd o => isCond o.cond
  | .eret w => rowIndex w == 41
  | .bkpt o => isCond o.cond
  | .hvc w => rowIndex w == 43
  | .smc o => isCond o.cond
  | .halfwordMultiply w => rowIndex w == 45
  | .undefMisc w => rowIndex w == 46
  | .mul o => isCond o.cond
  | .mla o => isCond o.cond
  | .umaal w => rowIndex w == 49
  | .undefMultiply0101 w => rowIndex w == 50
  | .mls o => isCond o.cond
  | .undefMultiply0111 w => rowIndex w == 52
  | .umull o => isCond o.cond
  | .umlal o => isCond o.cond
  | .smull o => isCond o.cond
  | .smlal o => isCond o.cond
  | .swp o => isCond o.cond
  | .strex o => isCond o.cond
  | .ldrex o => isCond o.cond
  | .exclusiveWidths w => rowIndex w == 60
  | .undefSync w => rowIndex w == 61
  | .unpredLdrdStrd w => rowIndex w == 62
  | .strhtImm o => isCond o.cond
  | .strhtReg o => isCond o.cond
  | .strhImm o => isCond o.cond && notPost o.p o.w
  | .strhReg o => isCond o.cond && notPost o.p o.w
  | .ldrhtImm o => isCond o.cond
  | .ldrhtReg o => isCond o.cond
  | .ldrhImm o => isCond o.cond && notPost o.p o.w
  | .ldrhReg o => isCond o.cond && notPost o.p o.w
  | .ldrdImm o => isCond o.cond && notPost o.p o.w
  | .ldrdReg o => isCond o.cond && notPost o.p o.w
  | .ldrsbtImm o => isCond o.cond
  | .ldrsbtReg o => isCond o.cond
  | .ldrsbImm o => isCond o.cond && notPost o.p o.w
  | .ldrsbReg o => isCond o.cond && notPost o.p o.w
  | .strdImm o => isCond o.cond && notPost o.p o.w
  | .strdReg o => isCond o.cond && notPost o.p o.w
  | .ldrshtImm o => isCond o.cond
  | .ldrshtReg o => isCond o.cond
  | .ldrshImm o => isCond o.cond && notPost o.p o.w
  | .ldrshReg o => isCond o.cond && notPost o.p o.w
  | .movw o => isCond o.cond
  | .movt o => isCond o.cond
  | .nop o => isCond o.cond
  | .yield o => isCond o.cond
  | .wfe o => isCond o.cond
  | .wfi o => isCond o.cond
  | .sev o => isCond o.cond
  | .dbg o => isCond o.cond
  | .hintUnallocated o => isCond o.cond && 5 ≤ o.hint.toNat && o.hint.toNat < 0xF0
  | .unpredMsrImm w => rowIndex w == 92
  | .msrImm o => isCond o.cond && o.mask != 0
  | .andImm o => isCond o.cond
  | .andReg o => isCond o.cond
  | .andRsr o => isCond o.cond
  | .eorImm o => isCond o.cond
  | .eorReg o => isCond o.cond
  | .eorRsr o => isCond o.cond
  | .subImm o => isCond o.cond
  | .subReg o => isCond o.cond
  | .subRsr o => isCond o.cond
  | .rsbImm o => isCond o.cond
  | .rsbReg o => isCond o.cond
  | .rsbRsr o => isCond o.cond
  | .addImm o => isCond o.cond
  | .addReg o => isCond o.cond
  | .addRsr o => isCond o.cond
  | .adcImm o => isCond o.cond
  | .adcReg o => isCond o.cond
  | .adcRsr o => isCond o.cond
  | .sbcImm o => isCond o.cond
  | .sbcReg o => isCond o.cond
  | .sbcRsr o => isCond o.cond
  | .rscImm o => isCond o.cond
  | .rscReg o => isCond o.cond
  | .rscRsr o => isCond o.cond
  | .tstImm o => isCond o.cond
  | .tstReg o => isCond o.cond
  | .tstRsr o => isCond o.cond
  | .teqImm o => isCond o.cond
  | .teqReg o => isCond o.cond
  | .teqRsr o => isCond o.cond
  | .cmpImm o => isCond o.cond
  | .cmpReg o => isCond o.cond
  | .cmpRsr o => isCond o.cond
  | .cmnImm o => isCond o.cond
  | .cmnReg o => isCond o.cond
  | .cmnRsr o => isCond o.cond
  | .orrImm o => isCond o.cond
  | .orrReg o => isCond o.cond
  | .orrRsr o => isCond o.cond
  | .movImm o => isCond o.cond
  | .movReg o => isCond o.cond
  | .rrx o => isCond o.cond
  | .lslImm o => isCond o.cond && o.imm5 != 0
  | .lsrImm o => isCond o.cond
  | .asrImm o => isCond o.cond
  | .rorImm o => isCond o.cond && o.imm5 != 0
  | .lslReg o => isCond o.cond
  | .lsrReg o => isCond o.cond
  | .asrReg o => isCond o.cond
  | .rorReg o => isCond o.cond
  | .bicImm o => isCond o.cond
  | .bicReg o => isCond o.cond
  | .bicRsr o => isCond o.cond
  | .mvnImm o => isCond o.cond
  | .mvnReg o => isCond o.cond
  | .mvnRsr o => isCond o.cond
  | .strtImm o => isCond o.cond
  | .strtReg o => isCond o.cond
  | .strImm o => isCond o.cond && notPost o.p o.w
  | .strReg o => isCond o.cond && notPost o.p o.w
  | .ldrtImm o => isCond o.cond
  | .ldrtReg o => isCond o.cond
  | .ldrImm o => isCond o.cond && notPost o.p o.w
  | .ldrReg o => isCond o.cond && notPost o.p o.w
  | .strbtImm o => isCond o.cond
  | .strbtReg o => isCond o.cond
  | .strbImm o => isCond o.cond && notPost o.p o.w
  | .strbReg o => isCond o.cond && notPost o.p o.w
  | .ldrbtImm o => isCond o.cond
  | .ldrbtReg o => isCond o.cond
  | .ldrbImm o => isCond o.cond && notPost o.p o.w
  | .ldrbReg o => isCond o.cond && notPost o.p o.w
  | .parallelAddSub w => rowIndex w == 166
  | .pkh w => rowIndex w == 167
  | .sxtb16 o => isCond o.cond
  | .sxtab16 o => isCond o.cond && o.rn != 15
  | .sxtb o => isCond o.cond
  | .sxtab o => isCond o.cond && o.rn != 15
  | .sxth o => isCond o.cond
  | .sxtah o => isCond o.cond && o.rn != 15
  | .uxtb16 o => isCond o.cond
  | .uxtab16 o => isCond o.cond && o.rn != 15
  | .uxtb o => isCond o.cond
  | .uxtab o => isCond o.cond && o.rn != 15
  | .uxth o => isCond o.cond
  | .uxtah o => isCond o.cond && o.rn != 15
  | .sel w => rowIndex w == 180
  | .ssat16 w => rowIndex w == 181
  | .ssat w => rowIndex w == 182
  | .rev o => isCond o.cond
  | .rev16 o => isCond o.cond
  | .usat16 w => rowIndex w == 185
  | .usat w => rowIndex w == 186
  | .rbit w => rowIndex w == 187
  | .revsh o => isCond o.cond
  | .signedMultiply w => rowIndex w == 189
  | .usad8 w => rowIndex w == 190
  | .sbfx o => isCond o.cond
  | .bfc o => isCond o.cond
  | .bfi o => isCond o.cond && o.rn != 15
  | .udf o => isCond o.cond
  | .ubfx o => isCond o.cond
  | .ldmExcReturn o => isCond o.cond
  | .ldmUser o => isCond o.cond
  | .stmUser o => isCond o.cond
  | .stmda o => isCond o.cond
  | .ldmda o => isCond o.cond
  | .stm o => isCond o.cond
  | .ldm o => isCond o.cond
  | .stmdb o => isCond o.cond
  | .ldmdb o => isCond o.cond
  | .stmib o => isCond o.cond
  | .ldmib o => isCond o.cond
  | .b o => isCond o.cond
  | .bl o => isCond o.cond
  | .undefCoproc00000 w => rowIndex w == 209
  | .svc o => isCond o.cond
  | .vfpLoadStore w => rowIndex w == 211
  | .vfpData w => rowIndex w == 212
  | .mcrP15 o => isCond o.cond
  | .mrcP15 o => isCond o.cond
  | .mcrr o => isCond o.cond && !vfpCoproc o.coproc
  | .stc o => isCond o.cond && !vfpCoproc o.coproc && (o.p || o.u || o.w)
  | .cdp o => isCond o.cond && !vfpCoproc o.coproc
  | .mcrOther o => isCond o.cond && !vfpCoproc o.coproc && o.coproc != 15
  | .undefAnyOther w => rowIndex w == 219

end Sys2Proof
end

