-- ==== Sys2Proof/Decode.lean ====
section
/-! DEFINITION. The decoder and the encoder. `decode` is total on words (R161): it finds the word's row and cuts the
row's fields out of the word at the positions of spec/30_encoding.md. `decodeBytes` is the same on bytes, least
significant first (R160, R102), and rejects by name what is shorter than an instruction. `encode` puts each field
back at its position over the row's fixed bits. -/

namespace Sys2Proof

open Machine (slice bit place placeBit rowIndex wordOfBytes bytesOfWord)

/-- The fields of CPS (R176, R453), cut out of a word. -/
def CpsOp.ofWord (w : Word) : CpsOp where
  imod := slice w 18 2
  m := bit w 17
  sbz15_9 := slice w 9 7
  a := bit w 8
  i := bit w 7
  f := bit w 6
  mode := slice w 0 5

/-- The fields put back at their positions over the fixed bits `base`. -/
def CpsOp.toWord (base : Word) (o : CpsOp) : Word :=
  base ||| place o.imod 18 ||| placeBit o.m 17 ||| place o.sbz15_9 9 ||| placeBit o.a 8 ||| placeBit o.i 7
    ||| placeBit o.f 6 ||| place o.mode 0

/-- The fields of SETEND (R176, R454), cut out of a word. -/
def SetendOp.ofWord (w : Word) : SetendOp where
  sbz15_10 := slice w 10 6
  e := bit w 9
  sbz8 := slice w 8 1
  sbz3_0 := slice w 0 4

/-- The fields put back at their positions over the fixed bits `base`. -/
def SetendOp.toWord (base : Word) (o : SetendOp) : Word :=
  base ||| place o.sbz15_10 10 ||| placeBit o.e 9 ||| place o.sbz8 8 ||| place o.sbz3_0 0

/-- The fields of PLD, PLDW, PLI immediate and literal (R176), cut out of a word. -/
def PreloadImm.ofWord (w : Word) : PreloadImm where
  u := bit w 23
  rn := slice w 16 4
  sbo15_12 := slice w 12 4
  imm12 := slice w 0 12

/-- The fields put back at their positions over the fixed bits `base`. -/
def PreloadImm.toWord (base : Word) (o : PreloadImm) : Word :=
  base ||| placeBit o.u 23 ||| place o.rn 16 ||| place o.sbo15_12 12 ||| place o.imm12 0

/-- The fields of PLD, PLDW, PLI register (R176), cut out of a word. -/
def PreloadReg.ofWord (w : Word) : PreloadReg where
  u := bit w 23
  rn := slice w 16 4
  sbo15_12 := slice w 12 4
  imm5 := slice w 7 5
  type := slice w 5 2
  rm := slice w 0 4

/-- The fields put back at their positions over the fixed bits `base`. -/
def PreloadReg.toWord (base : Word) (o : PreloadReg) : Word :=
  base ||| placeBit o.u 23 ||| place o.rn 16 ||| place o.sbo15_12 12 ||| place o.imm5 7 ||| place o.type 5
    ||| place o.rm 0

/-- The fields of CLREX (R176), cut out of a word. -/
def ClrexOp.ofWord (w : Word) : ClrexOp where
  sbo19_12 := slice w 12 8
  sbz11_8 := slice w 8 4
  sbo3_0 := slice w 0 4

/-- The fields put back at their positions over the fixed bits `base`. -/
def ClrexOp.toWord (base : Word) (o : ClrexOp) : Word :=
  base ||| place o.sbo19_12 12 ||| place o.sbz11_8 8 ||| place o.sbo3_0 0

/-- The fields of DSB, DMB, ISB (R176), cut out of a word. -/
def BarrierOp.ofWord (w : Word) : BarrierOp where
  sbo19_12 := slice w 12 8
  sbz11_8 := slice w 8 4
  option := slice w 0 4

/-- The fields put back at their positions over the fixed bits `base`. -/
def BarrierOp.toWord (base : Word) (o : BarrierOp) : Word :=
  base ||| place o.sbo19_12 12 ||| place o.sbz11_8 8 ||| place o.option 0

/-- The fields of BLX immediate (R175, R405), cut out of a word. -/
def BlxImmOp.ofWord (w : Word) : BlxImmOp where
  h := bit w 24
  imm24 := slice w 0 24

/-- The fields put back at their positions over the fixed bits `base`. -/
def BlxImmOp.toWord (base : Word) (o : BlxImmOp) : Word :=
  base ||| placeBit o.h 24 ||| place o.imm24 0

/-- The fields of MCRR2, MRRC2 (R175), cut out of a word. -/
def Mcrr2Op.ofWord (w : Word) : Mcrr2Op where
  l := bit w 20
  x19_12 := slice w 12 8
  coproc := slice w 8 4
  x7_0 := slice w 0 8

/-- The fields put back at their positions over the fixed bits `base`. -/
def Mcrr2Op.toWord (base : Word) (o : Mcrr2Op) : Word :=
  base ||| placeBit o.l 20 ||| place o.x19_12 12 ||| place o.coproc 8 ||| place o.x7_0 0

/-- The fields of STC2, LDC2 (R175), cut out of a word. -/
def Stc2Op.ofWord (w : Word) : Stc2Op where
  p := bit w 24
  u := bit w 23
  d := bit w 22
  w := bit w 21
  l := bit w 20
  rn := slice w 16 4
  x15_12 := slice w 12 4
  coproc := slice w 8 4
  imm8 := slice w 0 8

/-- The fields put back at their positions over the fixed bits `base`. -/
def Stc2Op.toWord (base : Word) (o : Stc2Op) : Word :=
  base ||| placeBit o.p 24 ||| placeBit o.u 23 ||| placeBit o.d 22 ||| placeBit o.w 21 ||| placeBit o.l 20
    ||| place o.rn 16 ||| place o.x15_12 12 ||| place o.coproc 8 ||| place o.imm8 0

/-- The fields of CDP2 (R175), cut out of a word. -/
def Cdp2Op.ofWord (w : Word) : Cdp2Op where
  x23_12 := slice w 12 12
  coproc := slice w 8 4
  x7_5 := slice w 5 3
  x3_0 := slice w 0 4

/-- The fields put back at their positions over the fixed bits `base`. -/
def Cdp2Op.toWord (base : Word) (o : Cdp2Op) : Word :=
  base ||| place o.x23_12 12 ||| place o.coproc 8 ||| place o.x7_5 5 ||| place o.x3_0 0

/-- The fields of MCR2, MRC2 (R175), cut out of a word. -/
def Mcr2Op.ofWord (w : Word) : Mcr2Op where
  x23_21 := slice w 21 3
  l := bit w 20
  x19_12 := slice w 12 8
  coproc := slice w 8 4
  x7_5 := slice w 5 3
  x3_0 := slice w 0 4

/-- The fields put back at their positions over the fixed bits `base`. -/
def Mcr2Op.toWord (base : Word) (o : Mcr2Op) : Word :=
  base ||| place o.x23_21 21 ||| placeBit o.l 20 ||| place o.x19_12 12 ||| place o.coproc 8 ||| place o.x7_5 5
    ||| place o.x3_0 0

/-- The fields of MRS (R171, R450), cut out of a word. -/
def MrsOp.ofWord (w : Word) : MrsOp where
  cond := slice w 28 4
  r := bit w 22
  sbo19_16 := slice w 16 4
  rd := slice w 12 4
  sbz11_10 := slice w 10 2
  sbz8 := slice w 8 1
  sbz3_0 := slice w 0 4

/-- The fields put back at their positions over the fixed bits `base`. -/
def MrsOp.toWord (base : Word) (o : MrsOp) : Word :=
  base ||| place o.cond 28 ||| placeBit o.r 22 ||| place o.sbo19_16 16 ||| place o.rd 12 ||| place o.sbz11_10 10
    ||| place o.sbz8 8 ||| place o.sbz3_0 0

/-- The fields of MSR register (R171, R452), cut out of a word. -/
def MsrRegOp.ofWord (w : Word) : MsrRegOp where
  cond := slice w 28 4
  r := bit w 22
  mask := slice w 16 4
  sbo15_12 := slice w 12 4
  sbz11_10 := slice w 10 2
  sbz8 := slice w 8 1
  rn := slice w 0 4

/-- The fields put back at their positions over the fixed bits `base`. -/
def MsrRegOp.toWord (base : Word) (o : MsrRegOp) : Word :=
  base ||| place o.cond 28 ||| placeBit o.r 22 ||| place o.mask 16 ||| place o.sbo15_12 12
    ||| place o.sbz11_10 10 ||| place o.sbz8 8 ||| place o.rn 0

/-- The fields of BX, BXJ, BLX register (R171), cut out of a word. -/
def BxOp.ofWord (w : Word) : BxOp where
  cond := slice w 28 4
  sbo19_8 := slice w 8 12
  rm := slice w 0 4

/-- The fields put back at their positions over the fixed bits `base`. -/
def BxOp.toWord (base : Word) (o : BxOp) : Word :=
  base ||| place o.cond 28 ||| place o.sbo19_8 8 ||| place o.rm 0

/-- The fields of CLZ (R171) and the reversals REV, REV16, REVSH (R174), cut out of a word. -/
def UnaryOp.ofWord (w : Word) : UnaryOp where
  cond := slice w 28 4
  sbo19_16 := slice w 16 4
  rd := slice w 12 4
  sbo11_8 := slice w 8 4
  rm := slice w 0 4

/-- The fields put back at their positions over the fixed bits `base`. -/
def UnaryOp.toWord (base : Word) (o : UnaryOp) : Word :=
  base ||| place o.cond 28 ||| place o.sbo19_16 16 ||| place o.rd 12 ||| place o.sbo11_8 8 ||| place o.rm 0

/-- The fields of QADD, QSUB, QDADD, QDSUB (R171), cut out of a word. -/
def QaddOp.ofWord (w : Word) : QaddOp where
  cond := slice w 28 4
  op := slice w 21 2
  rn := slice w 16 4
  rd := slice w 12 4
  sbz11_8 := slice w 8 4
  rm := slice w 0 4

/-- The fields put back at their positions over the fixed bits `base`. -/
def QaddOp.toWord (base : Word) (o : QaddOp) : Word :=
  base ||| place o.cond 28 ||| place o.op 21 ||| place o.rn 16 ||| place o.rd 12 ||| place o.sbz11_8 8
    ||| place o.rm 0

/-- The fields of BKPT (R171) and UDF (R174): an immediate the core ignores, cut out of a word. -/
def TrapOp.ofWord (w : Word) : TrapOp where
  cond := slice w 28 4
  imm12 := slice w 8 12
  imm4 := slice w 0 4

/-- The fields put back at their positions over the fixed bits `base`. -/
def TrapOp.toWord (base : Word) (o : TrapOp) : Word :=
  base ||| place o.cond 28 ||| place o.imm12 8 ||| place o.imm4 0

/-- The fields of SMC (R171), cut out of a word. -/
def SmcOp.ofWord (w : Word) : SmcOp where
  cond := slice w 28 4
  sbz19_8 := slice w 8 12
  imm4 := slice w 0 4

/-- The fields put back at their positions over the fixed bits `base`. -/
def SmcOp.toWord (base : Word) (o : SmcOp) : Word :=
  base ||| place o.cond 28 ||| place o.sbz19_8 8 ||| place o.imm4 0

/-- The fields of MUL (R167), cut out of a word. -/
def MulOp.ofWord (w : Word) : MulOp where
  cond := slice w 28 4
  s := bit w 20
  rd := slice w 16 4
  sbz15_12 := slice w 12 4
  rm := slice w 8 4
  rn := slice w 0 4

/-- The fields put back at their positions over the fixed bits `base`. -/
def MulOp.toWord (base : Word) (o : MulOp) : Word :=
  base ||| place o.cond 28 ||| placeBit o.s 20 ||| place o.rd 16 ||| place o.sbz15_12 12 ||| place o.rm 8
    ||| place o.rn 0

/-- The fields of MLA (R167), cut out of a word. -/
def MlaOp.ofWord (w : Word) : MlaOp where
  cond := slice w 28 4
  s := bit w 20
  rd := slice w 16 4
  ra := slice w 12 4
  rm := slice w 8 4
  rn := slice w 0 4

/-- The fields put back at their positions over the fixed bits `base`. -/
def MlaOp.toWord (base : Word) (o : MlaOp) : Word :=
  base ||| place o.cond 28 ||| placeBit o.s 20 ||| place o.rd 16 ||| place o.ra 12 ||| place o.rm 8
    ||| place o.rn 0

/-- The fields of MLS (R167): no S bit, cut out of a word. -/
def MlsOp.ofWord (w : Word) : MlsOp where
  cond := slice w 28 4
  rd := slice w 16 4
  ra := slice w 12 4
  rm := slice w 8 4
  rn := slice w 0 4

/-- The fields put back at their positions over the fixed bits `base`. -/
def MlsOp.toWord (base : Word) (o : MlsOp) : Word :=
  base ||| place o.cond 28 ||| place o.rd 16 ||| place o.ra 12 ||| place o.rm 8 ||| place o.rn 0

/-- The fields of UMULL, UMLAL, SMULL, SMLAL (R167), cut out of a word. -/
def MulLongOp.ofWord (w : Word) : MulLongOp where
  cond := slice w 28 4
  s := bit w 20
  rdHi := slice w 16 4
  rdLo := slice w 12 4
  rm := slice w 8 4
  rn := slice w 0 4

/-- The fields put back at their positions over the fixed bits `base`. -/
def MulLongOp.toWord (base : Word) (o : MulLongOp) : Word :=
  base ||| place o.cond 28 ||| placeBit o.s 20 ||| place o.rdHi 16 ||| place o.rdLo 12 ||| place o.rm 8
    ||| place o.rn 0

/-- The fields of SWP, SWPB (R168), cut out of a word. -/
def SwpOp.ofWord (w : Word) : SwpOp where
  cond := slice w 28 4
  b := bit w 22
  rn := slice w 16 4
  rt := slice w 12 4
  sbz11_8 := slice w 8 4
  rm := slice w 0 4

/-- The fields put back at their positions over the fixed bits `base`. -/
def SwpOp.toWord (base : Word) (o : SwpOp) : Word :=
  base ||| place o.cond 28 ||| placeBit o.b 22 ||| place o.rn 16 ||| place o.rt 12 ||| place o.sbz11_8 8
    ||| place o.rm 0

/-- The fields of STREX (R168), cut out of a word. -/
def StrexOp.ofWord (w : Word) : StrexOp where
  cond := slice w 28 4
  rn := slice w 16 4
  rd := slice w 12 4
  sbo11_8 := slice w 8 4
  rt := slice w 0 4

/-- The fields put back at their positions over the fixed bits `base`. -/
def StrexOp.toWord (base : Word) (o : StrexOp) : Word :=
  base ||| place o.cond 28 ||| place o.rn 16 ||| place o.rd 12 ||| place o.sbo11_8 8 ||| place o.rt 0

/-- The fields of LDREX (R168), cut out of a word. -/
def LdrexOp.ofWord (w : Word) : LdrexOp where
  cond := slice w 28 4
  rn := slice w 16 4
  rt := slice w 12 4
  sbo11_8 := slice w 8 4
  sbo3_0 := slice w 0 4

/-- The fields put back at their positions over the fixed bits `base`. -/
def LdrexOp.toWord (base : Word) (o : LdrexOp) : Word :=
  base ||| place o.cond 28 ||| place o.rn 16 ||| place o.rt 12 ||| place o.sbo11_8 8 ||| place o.sbo3_0 0

/-- The fields of Extra load/store, immediate (R169), cut out of a word. -/
def ExtraImm.ofWord (w : Word) : ExtraImm where
  cond := slice w 28 4
  p := bit w 24
  u := bit w 23
  w := bit w 21
  rn := slice w 16 4
  rt := slice w 12 4
  imm4H := slice w 8 4
  imm4L := slice w 0 4

/-- The fields put back at their positions over the fixed bits `base`. -/
def ExtraImm.toWord (base : Word) (o : ExtraImm) : Word :=
  base ||| place o.cond 28 ||| placeBit o.p 24 ||| placeBit o.u 23 ||| placeBit o.w 21 ||| place o.rn 16
    ||| place o.rt 12 ||| place o.imm4H 8 ||| place o.imm4L 0

/-- The fields of Extra load/store, register (R169), cut out of a word. -/
def ExtraReg.ofWord (w : Word) : ExtraReg where
  cond := slice w 28 4
  p := bit w 24
  u := bit w 23
  w := bit w 21
  rn := slice w 16 4
  rt := slice w 12 4
  sbz11_8 := slice w 8 4
  rm := slice w 0 4

/-- The fields put back at their positions over the fixed bits `base`. -/
def ExtraReg.toWord (base : Word) (o : ExtraReg) : Word :=
  base ||| place o.cond 28 ||| placeBit o.p 24 ||| placeBit o.u 23 ||| placeBit o.w 21 ||| place o.rn 16
    ||| place o.rt 12 ||| place o.sbz11_8 8 ||| place o.rm 0

/-- The fields of Extra load/store unprivileged, immediate (R170), cut out of a word. -/
def ExtraTImm.ofWord (w : Word) : ExtraTImm where
  cond := slice w 28 4
  u := bit w 23
  rn := slice w 16 4
  rt := slice w 12 4
  imm4H := slice w 8 4
  imm4L := slice w 0 4

/-- The fields put back at their positions over the fixed bits `base`. -/
def ExtraTImm.toWord (base : Word) (o : ExtraTImm) : Word :=
  base ||| place o.cond 28 ||| placeBit o.u 23 ||| place o.rn 16 ||| place o.rt 12 ||| place o.imm4H 8
    ||| place o.imm4L 0

/-- The fields of Extra load/store unprivileged, register (R170), cut out of a word. -/
def ExtraTReg.ofWord (w : Word) : ExtraTReg where
  cond := slice w 28 4
  u := bit w 23
  rn := slice w 16 4
  rt := slice w 12 4
  sbz11_8 := slice w 8 4
  rm := slice w 0 4

/-- The fields put back at their positions over the fixed bits `base`. -/
def ExtraTReg.toWord (base : Word) (o : ExtraTReg) : Word :=
  base ||| place o.cond 28 ||| placeBit o.u 23 ||| place o.rn 16 ||| place o.rt 12 ||| place o.sbz11_8 8
    ||| place o.rm 0

/-- The fields of MOVW, MOVT (R163, R255, R256), cut out of a word. -/
def MovwOp.ofWord (w : Word) : MovwOp where
  cond := slice w 28 4
  imm4 := slice w 16 4
  rd := slice w 12 4
  imm12 := slice w 0 12

/-- The fields put back at their positions over the fixed bits `base`. -/
def MovwOp.toWord (base : Word) (o : MovwOp) : Word :=
  base ||| place o.cond 28 ||| place o.imm4 16 ||| place o.rd 12 ||| place o.imm12 0

/-- The fields of NOP, YIELD, WFE, WFI, SEV (R172), cut out of a word. -/
def HintOp.ofWord (w : Word) : HintOp where
  cond := slice w 28 4
  sbo15_12 := slice w 12 4
  sbz11_8 := slice w 8 4

/-- The fields put back at their positions over the fixed bits `base`. -/
def HintOp.toWord (base : Word) (o : HintOp) : Word :=
  base ||| place o.cond 28 ||| place o.sbo15_12 12 ||| place o.sbz11_8 8

/-- The fields of DBG (R172), cut out of a word. -/
def DbgOp.ofWord (w : Word) : DbgOp where
  cond := slice w 28 4
  sbo15_12 := slice w 12 4
  sbz11_8 := slice w 8 4
  option := slice w 0 4

/-- The fields put back at their positions over the fixed bits `base`. -/
def DbgOp.toWord (base : Word) (o : DbgOp) : Word :=
  base ||| place o.cond 28 ||| place o.sbo15_12 12 ||| place o.sbz11_8 8 ||| place o.option 0

/-- The fields of An unallocated hint (R172, R465), cut out of a word. -/
def HintUnallocOp.ofWord (w : Word) : HintUnallocOp where
  cond := slice w 28 4
  sbo15_12 := slice w 12 4
  sbz11_8 := slice w 8 4
  hint := slice w 0 8

/-- The fields put back at their positions over the fixed bits `base`. -/
def HintUnallocOp.toWord (base : Word) (o : HintUnallocOp) : Word :=
  base ||| place o.cond 28 ||| place o.sbo15_12 12 ||| place o.sbz11_8 8 ||| place o.hint 0

/-- The fields of MSR immediate (R172), cut out of a word. -/
def MsrImmOp.ofWord (w : Word) : MsrImmOp where
  cond := slice w 28 4
  r := bit w 22
  mask := slice w 16 4
  sbo15_12 := slice w 12 4
  imm12 := slice w 0 12

/-- The fields put back at their positions over the fixed bits `base`. -/
def MsrImmOp.toWord (base : Word) (o : MsrImmOp) : Word :=
  base ||| place o.cond 28 ||| placeBit o.r 22 ||| place o.mask 16 ||| place o.sbo15_12 12 ||| place o.imm12 0

/-- The fields of Data processing, immediate (R166), cut out of a word. -/
def DpImm.ofWord (w : Word) : DpImm where
  cond := slice w 28 4
  s := bit w 20
  rn := slice w 16 4
  rd := slice w 12 4
  imm12 := slice w 0 12

/-- The fields put back at their positions over the fixed bits `base`. -/
def DpImm.toWord (base : Word) (o : DpImm) : Word :=
  base ||| place o.cond 28 ||| placeBit o.s 20 ||| place o.rn 16 ||| place o.rd 12 ||| place o.imm12 0

/-- The fields of Data processing, register (R164), cut out of a word. -/
def DpReg.ofWord (w : Word) : DpReg where
  cond := slice w 28 4
  s := bit w 20
  rn := slice w 16 4
  rd := slice w 12 4
  imm5 := slice w 7 5
  type := slice w 5 2
  rm := slice w 0 4

/-- The fields put back at their positions over the fixed bits `base`. -/
def DpReg.toWord (base : Word) (o : DpReg) : Word :=
  base ||| place o.cond 28 ||| placeBit o.s 20 ||| place o.rn 16 ||| place o.rd 12 ||| place o.imm5 7
    ||| place o.type 5 ||| place o.rm 0

/-- The fields of Data processing, register-shifted register (R165), cut out of a word. -/
def DpRsr.ofWord (w : Word) : DpRsr where
  cond := slice w 28 4
  s := bit w 20
  rn := slice w 16 4
  rd := slice w 12 4
  rs := slice w 8 4
  type := slice w 5 2
  rm := slice w 0 4

/-- The fields put back at their positions over the fixed bits `base`. -/
def DpRsr.toWord (base : Word) (o : DpRsr) : Word :=
  base ||| place o.cond 28 ||| placeBit o.s 20 ||| place o.rn 16 ||| place o.rd 12 ||| place o.rs 8
    ||| place o.type 5 ||| place o.rm 0

/-- The fields of TST, TEQ, CMP, CMN immediate (R166, R224), cut out of a word. -/
def CmpImm.ofWord (w : Word) : CmpImm where
  cond := slice w 28 4
  rn := slice w 16 4
  sbz15_12 := slice w 12 4
  imm12 := slice w 0 12

/-- The fields put back at their positions over the fixed bits `base`. -/
def CmpImm.toWord (base : Word) (o : CmpImm) : Word :=
  base ||| place o.cond 28 ||| place o.rn 16 ||| place o.sbz15_12 12 ||| place o.imm12 0

/-- The fields of TST, TEQ, CMP, CMN register (R164, R224), cut out of a word. -/
def CmpReg.ofWord (w : Word) : CmpReg where
  cond := slice w 28 4
  rn := slice w 16 4
  sbz15_12 := slice w 12 4
  imm5 := slice w 7 5
  type := slice w 5 2
  rm := slice w 0 4

/-- The fields put back at their positions over the fixed bits `base`. -/
def CmpReg.toWord (base : Word) (o : CmpReg) : Word :=
  base ||| place o.cond 28 ||| place o.rn 16 ||| place o.sbz15_12 12 ||| place o.imm5 7 ||| place o.type 5
    ||| place o.rm 0

/-- The fields of TST, TEQ, CMP, CMN register-shifted register (R165, R224), cut out of a word. -/
def CmpRsr.ofWord (w : Word) : CmpRsr where
  cond := slice w 28 4
  rn := slice w 16 4
  sbz15_12 := slice w 12 4
  rs := slice w 8 4
  type := slice w 5 2
  rm := slice w 0 4

/-- The fields put back at their positions over the fixed bits `base`. -/
def CmpRsr.toWord (base : Word) (o : CmpRsr) : Word :=
  base ||| place o.cond 28 ||| place o.rn 16 ||| place o.sbz15_12 12 ||| place o.rs 8 ||| place o.type 5
    ||| place o.rm 0

/-- The fields of MOV, MVN immediate (R166, R224), cut out of a word. -/
def MovImm.ofWord (w : Word) : MovImm where
  cond := slice w 28 4
  s := bit w 20
  sbz19_16 := slice w 16 4
  rd := slice w 12 4
  imm12 := slice w 0 12

/-- The fields put back at their positions over the fixed bits `base`. -/
def MovImm.toWord (base : Word) (o : MovImm) : Word :=
  base ||| place o.cond 28 ||| placeBit o.s 20 ||| place o.sbz19_16 16 ||| place o.rd 12 ||| place o.imm12 0

/-- The fields of MOV register and RRX (R164, R224), cut out of a word. -/
def MovReg.ofWord (w : Word) : MovReg where
  cond := slice w 28 4
  s := bit w 20
  sbz19_16 := slice w 16 4
  rd := slice w 12 4
  rm := slice w 0 4

/-- The fields put back at their positions over the fixed bits `base`. -/
def MovReg.toWord (base : Word) (o : MovReg) : Word :=
  base ||| place o.cond 28 ||| placeBit o.s 20 ||| place o.sbz19_16 16 ||| place o.rd 12 ||| place o.rm 0

/-- The fields of LSL, LSR, ASR, ROR immediate (R164, R224), cut out of a word. -/
def ShiftImm.ofWord (w : Word) : ShiftImm where
  cond := slice w 28 4
  s := bit w 20
  sbz19_16 := slice w 16 4
  rd := slice w 12 4
  imm5 := slice w 7 5
  rm := slice w 0 4

/-- The fields put back at their positions over the fixed bits `base`. -/
def ShiftImm.toWord (base : Word) (o : ShiftImm) : Word :=
  base ||| place o.cond 28 ||| placeBit o.s 20 ||| place o.sbz19_16 16 ||| place o.rd 12 ||| place o.imm5 7
    ||| place o.rm 0

/-- The fields of LSL, LSR, ASR, ROR register (R165, R224), cut out of a word. -/
def ShiftReg.ofWord (w : Word) : ShiftReg where
  cond := slice w 28 4
  s := bit w 20
  sbz19_16 := slice w 16 4
  rd := slice w 12 4
  rs := slice w 8 4
  rm := slice w 0 4

/-- The fields put back at their positions over the fixed bits `base`. -/
def ShiftReg.toWord (base : Word) (o : ShiftReg) : Word :=
  base ||| place o.cond 28 ||| placeBit o.s 20 ||| place o.sbz19_16 16 ||| place o.rd 12 ||| place o.rs 8
    ||| place o.rm 0

/-- The fields of MVN register (R164, R224), cut out of a word. -/
def MvnReg.ofWord (w : Word) : MvnReg where
  cond := slice w 28 4
  s := bit w 20
  sbz19_16 := slice w 16 4
  rd := slice w 12 4
  imm5 := slice w 7 5
  type := slice w 5 2
  rm := slice w 0 4

/-- The fields put back at their positions over the fixed bits `base`. -/
def MvnReg.toWord (base : Word) (o : MvnReg) : Word :=
  base ||| place o.cond 28 ||| placeBit o.s 20 ||| place o.sbz19_16 16 ||| place o.rd 12 ||| place o.imm5 7
    ||| place o.type 5 ||| place o.rm 0

/-- The fields of MVN register-shifted register (R165, R224), cut out of a word. -/
def MvnRsr.ofWord (w : Word) : MvnRsr where
  cond := slice w 28 4
  s := bit w 20
  sbz19_16 := slice w 16 4
  rd := slice w 12 4
  rs := slice w 8 4
  type := slice w 5 2
  rm := slice w 0 4

/-- The fields put back at their positions over the fixed bits `base`. -/
def MvnRsr.toWord (base : Word) (o : MvnRsr) : Word :=
  base ||| place o.cond 28 ||| placeBit o.s 20 ||| place o.sbz19_16 16 ||| place o.rd 12 ||| place o.rs 8
    ||| place o.type 5 ||| place o.rm 0

/-- The fields of Load/store word and byte, immediate (R173), cut out of a word. -/
def LsImm.ofWord (w : Word) : LsImm where
  cond := slice w 28 4
  p := bit w 24
  u := bit w 23
  w := bit w 21
  rn := slice w 16 4
  rt := slice w 12 4
  imm12 := slice w 0 12

/-- The fields put back at their positions over the fixed bits `base`. -/
def LsImm.toWord (base : Word) (o : LsImm) : Word :=
  base ||| place o.cond 28 ||| placeBit o.p 24 ||| placeBit o.u 23 ||| placeBit o.w 21 ||| place o.rn 16
    ||| place o.rt 12 ||| place o.imm12 0

/-- The fields of Load/store word and byte, register (R173), cut out of a word. -/
def LsReg.ofWord (w : Word) : LsReg where
  cond := slice w 28 4
  p := bit w 24
  u := bit w 23
  w := bit w 21
  rn := slice w 16 4
  rt := slice w 12 4
  imm5 := slice w 7 5
  type := slice w 5 2
  rm := slice w 0 4

/-- The fields put back at their positions over the fixed bits `base`. -/
def LsReg.toWord (base : Word) (o : LsReg) : Word :=
  base ||| place o.cond 28 ||| placeBit o.p 24 ||| placeBit o.u 23 ||| placeBit o.w 21 ||| place o.rn 16
    ||| place o.rt 12 ||| place o.imm5 7 ||| place o.type 5 ||| place o.rm 0

/-- The fields of Load/store word and byte unprivileged, immediate (R173), cut out of a word. -/
def LsTImm.ofWord (w : Word) : LsTImm where
  cond := slice w 28 4
  u := bit w 23
  rn := slice w 16 4
  rt := slice w 12 4
  imm12 := slice w 0 12

/-- The fields put back at their positions over the fixed bits `base`. -/
def LsTImm.toWord (base : Word) (o : LsTImm) : Word :=
  base ||| place o.cond 28 ||| placeBit o.u 23 ||| place o.rn 16 ||| place o.rt 12 ||| place o.imm12 0

/-- The fields of Load/store word and byte unprivileged, register (R173), cut out of a word. -/
def LsTReg.ofWord (w : Word) : LsTReg where
  cond := slice w 28 4
  u := bit w 23
  rn := slice w 16 4
  rt := slice w 12 4
  imm5 := slice w 7 5
  type := slice w 5 2
  rm := slice w 0 4

/-- The fields put back at their positions over the fixed bits `base`. -/
def LsTReg.toWord (base : Word) (o : LsTReg) : Word :=
  base ||| place o.cond 28 ||| placeBit o.u 23 ||| place o.rn 16 ||| place o.rt 12 ||| place o.imm5 7
    ||| place o.type 5 ||| place o.rm 0

/-- The fields of SXTB, SXTH, SXTB16, UXTB, UXTH, UXTB16 (R174), cut out of a word. -/
def ExtendOp.ofWord (w : Word) : ExtendOp where
  cond := slice w 28 4
  rd := slice w 12 4
  rotate := slice w 10 2
  sbz9_8 := slice w 8 2
  rm := slice w 0 4

/-- The fields put back at their positions over the fixed bits `base`. -/
def ExtendOp.toWord (base : Word) (o : ExtendOp) : Word :=
  base ||| place o.cond 28 ||| place o.rd 12 ||| place o.rotate 10 ||| place o.sbz9_8 8 ||| place o.rm 0

/-- The fields of SXTAB, SXTAH, SXTAB16, UXTAB, UXTAH, UXTAB16 (R174), cut out of a word. -/
def ExtendAddOp.ofWord (w : Word) : ExtendAddOp where
  cond := slice w 28 4
  rn := slice w 16 4
  rd := slice w 12 4
  rotate := slice w 10 2
  sbz9_8 := slice w 8 2
  rm := slice w 0 4

/-- The fields put back at their positions over the fixed bits `base`. -/
def ExtendAddOp.toWord (base : Word) (o : ExtendAddOp) : Word :=
  base ||| place o.cond 28 ||| place o.rn 16 ||| place o.rd 12 ||| place o.rotate 10 ||| place o.sbz9_8 8
    ||| place o.rm 0

/-- The fields of SBFX, UBFX (R174), cut out of a word. -/
def BfxOp.ofWord (w : Word) : BfxOp where
  cond := slice w 28 4
  widthm1 := slice w 16 5
  rd := slice w 12 4
  lsb := slice w 7 5
  rn := slice w 0 4

/-- The fields put back at their positions over the fixed bits `base`. -/
def BfxOp.toWord (base : Word) (o : BfxOp) : Word :=
  base ||| place o.cond 28 ||| place o.widthm1 16 ||| place o.rd 12 ||| place o.lsb 7 ||| place o.rn 0

/-- The fields of BFC (R174), cut out of a word. -/
def BfcOp.ofWord (w : Word) : BfcOp where
  cond := slice w 28 4
  msb := slice w 16 5
  rd := slice w 12 4
  lsb := slice w 7 5

/-- The fields put back at their positions over the fixed bits `base`. -/
def BfcOp.toWord (base : Word) (o : BfcOp) : Word :=
  base ||| place o.cond 28 ||| place o.msb 16 ||| place o.rd 12 ||| place o.lsb 7

/-- The fields of BFI (R174), cut out of a word. -/
def BfiOp.ofWord (w : Word) : BfiOp where
  cond := slice w 28 4
  msb := slice w 16 5
  rd := slice w 12 4
  lsb := slice w 7 5
  rn := slice w 0 4

/-- The fields put back at their positions over the fixed bits `base`. -/
def BfiOp.toWord (base : Word) (o : BfiOp) : Word :=
  base ||| place o.cond 28 ||| place o.msb 16 ||| place o.rd 12 ||| place o.lsb 7 ||| place o.rn 0

/-- The fields of LDM exception return (R177), cut out of a word. -/
def LdmExcOp.ofWord (w : Word) : LdmExcOp where
  cond := slice w 28 4
  p := bit w 24
  u := bit w 23
  w := bit w 21
  rn := slice w 16 4
  registers := slice w 0 15

/-- The fields put back at their positions over the fixed bits `base`. -/
def LdmExcOp.toWord (base : Word) (o : LdmExcOp) : Word :=
  base ||| place o.cond 28 ||| placeBit o.p 24 ||| placeBit o.u 23 ||| placeBit o.w 21 ||| place o.rn 16
    ||| place o.registers 0

/-- The fields of LDM user registers (R177), cut out of a word. -/
def LdmUserOp.ofWord (w : Word) : LdmUserOp where
  cond := slice w 28 4
  p := bit w 24
  u := bit w 23
  sbz21 := slice w 21 1
  rn := slice w 16 4
  registers := slice w 0 15

/-- The fields put back at their positions over the fixed bits `base`. -/
def LdmUserOp.toWord (base : Word) (o : LdmUserOp) : Word :=
  base ||| place o.cond 28 ||| placeBit o.p 24 ||| placeBit o.u 23 ||| place o.sbz21 21 ||| place o.rn 16
    ||| place o.registers 0

/-- The fields of STM user registers (R177), cut out of a word. -/
def StmUserOp.ofWord (w : Word) : StmUserOp where
  cond := slice w 28 4
  p := bit w 24
  u := bit w 23
  sbz21 := slice w 21 1
  rn := slice w 16 4
  registers := slice w 0 16

/-- The fields put back at their positions over the fixed bits `base`. -/
def StmUserOp.toWord (base : Word) (o : StmUserOp) : Word :=
  base ||| place o.cond 28 ||| placeBit o.p 24 ||| placeBit o.u 23 ||| place o.sbz21 21 ||| place o.rn 16
    ||| place o.registers 0

/-- The fields of LDM and STM (R177), cut out of a word. -/
def BlockOp.ofWord (w : Word) : BlockOp where
  cond := slice w 28 4
  w := bit w 21
  rn := slice w 16 4
  registers := slice w 0 16

/-- The fields put back at their positions over the fixed bits `base`. -/
def BlockOp.toWord (base : Word) (o : BlockOp) : Word :=
  base ||| place o.cond 28 ||| placeBit o.w 21 ||| place o.rn 16 ||| place o.registers 0

/-- The fields of B, BL (R177) and SVC (R178), cut out of a word. -/
def BranchOp.ofWord (w : Word) : BranchOp where
  cond := slice w 28 4
  imm24 := slice w 0 24

/-- The fields put back at their positions over the fixed bits `base`. -/
def BranchOp.toWord (base : Word) (o : BranchOp) : Word :=
  base ||| place o.cond 28 ||| place o.imm24 0

/-- The fields of MCR and MRC to coprocessor 15 (R178), cut out of a word. -/
def Cp15Op.ofWord (w : Word) : Cp15Op where
  cond := slice w 28 4
  opc1 := slice w 21 3
  crn := slice w 16 4
  rt := slice w 12 4
  opc2 := slice w 5 3
  crm := slice w 0 4

/-- The fields put back at their positions over the fixed bits `base`. -/
def Cp15Op.toWord (base : Word) (o : Cp15Op) : Word :=
  base ||| place o.cond 28 ||| place o.opc1 21 ||| place o.crn 16 ||| place o.rt 12 ||| place o.opc2 5
    ||| place o.crm 0

/-- The fields of MCRR, MRRC (R178), cut out of a word. -/
def McrrOp.ofWord (w : Word) : McrrOp where
  cond := slice w 28 4
  l := bit w 20
  x19_12 := slice w 12 8
  coproc := slice w 8 4
  x7_0 := slice w 0 8

/-- The fields put back at their positions over the fixed bits `base`. -/
def McrrOp.toWord (base : Word) (o : McrrOp) : Word :=
  base ||| place o.cond 28 ||| placeBit o.l 20 ||| place o.x19_12 12 ||| place o.coproc 8 ||| place o.x7_0 0

/-- The fields of STC, LDC (R178), cut out of a word. -/
def StcOp.ofWord (w : Word) : StcOp where
  cond := slice w 28 4
  p := bit w 24
  u := bit w 23
  d := bit w 22
  w := bit w 21
  l := bit w 20
  rn := slice w 16 4
  x15_12 := slice w 12 4
  coproc := slice w 8 4
  imm8 := slice w 0 8

/-- The fields put back at their positions over the fixed bits `base`. -/
def StcOp.toWord (base : Word) (o : StcOp) : Word :=
  base ||| place o.cond 28 ||| placeBit o.p 24 ||| placeBit o.u 23 ||| placeBit o.d 22 ||| placeBit o.w 21
    ||| placeBit o.l 20 ||| place o.rn 16 ||| place o.x15_12 12 ||| place o.coproc 8 ||| place o.imm8 0

/-- The fields of CDP (R178), cut out of a word. -/
def CdpOp.ofWord (w : Word) : CdpOp where
  cond := slice w 28 4
  x23_12 := slice w 12 12
  coproc := slice w 8 4
  x7_5 := slice w 5 3
  x3_0 := slice w 0 4

/-- The fields put back at their positions over the fixed bits `base`. -/
def CdpOp.toWord (base : Word) (o : CdpOp) : Word :=
  base ||| place o.cond 28 ||| place o.x23_12 12 ||| place o.coproc 8 ||| place o.x7_5 5 ||| place o.x3_0 0

/-- The fields of MCR, MRC to a coprocessor other than 10, 11 and 15 (R178), cut out of a word. -/
def McrOtherOp.ofWord (w : Word) : McrOtherOp where
  cond := slice w 28 4
  x23_21 := slice w 21 3
  l := bit w 20
  x19_12 := slice w 12 8
  coproc := slice w 8 4
  x7_5 := slice w 5 3
  x3_0 := slice w 0 4

/-- The fields put back at their positions over the fixed bits `base`. -/
def McrOtherOp.toWord (base : Word) (o : McrOtherOp) : Word :=
  base ||| place o.cond 28 ||| place o.x23_21 21 ||| placeBit o.l 20 ||| place o.x19_12 12 ||| place o.coproc 8
    ||| place o.x7_5 5 ||| place o.x3_0 0

/-- What each row builds from its word, in the table's order (`Machine.patterns`). -/
def builders0 : List (Word → Instr) := [
  fun w => .cps (.ofWord w),  -- 0
  fun w => .setend (.ofWord w),  -- 1
  .simdDataProcessing,  -- 2
  .simdLoadStore,  -- 3
  .memHintImm,  -- 4
  fun w => .pliImm (.ofWord w),  -- 5
  .unpredPldwImm,  -- 6
  fun w => .pldwImm (.ofWord w),  -- 7
  fun w => .pldImm (.ofWord w),  -- 8
  .unpredUncond1010011,  -- 9
  fun w => .clrex (.ofWord w),  -- 10
  fun w => .dsb (.ofWord w),  -- 11
  fun w => .dmb (.ofWord w),  -- 12
  fun w => .isb (.ofWord w),  -- 13
  .unpredUncond1010111,  -- 14
  .unpredUncond1011x11,  -- 15
  .memHintReg,  -- 16
  fun w => .pliReg (.ofWord w),  -- 17
  fun w => .pldwReg (.ofWord w),  -- 18
  fun w => .pldReg (.ofWord w)]  -- 19

def builders1 : List (Word → Instr) := [
  .unpredUncond11xxx11,  -- 20
  .undefUncondMisc,  -- 21
  .srs,  -- 22
  .rfe,  -- 23
  fun w => .blxImm (.ofWord w),  -- 24
  .undefUncond1100000,  -- 25
  .vfpUncondLoadStore,  -- 26
  .vfpUncondData,  -- 27
  fun w => .mcrr2 (.ofWord w),  -- 28
  fun w => .stc2 (.ofWord w),  -- 29
  fun w => .cdp2 (.ofWord w),  -- 30
  fun w => .mcr2 (.ofWord w),  -- 31
  .undefUncondOther,  -- 32
  .mrsMsrBanked,  -- 33
  fun w => .mrs (.ofWord w),  -- 34
  fun w => .msrReg (.ofWord w),  -- 35
  fun w => .bx (.ofWord w),  -- 36
  fun w => .clz (.ofWord w),  -- 37
  fun w => .bxj (.ofWord w),  -- 38
  fun w => .blxReg (.ofWord w)]  -- 39

def builders2 : List (Word → Instr) := [
  fun w => .qadd (.ofWord w),  -- 40
  .eret,  -- 41
  fun w => .bkpt (.ofWord w),  -- 42
  .hvc,  -- 43
  fun w => .smc (.ofWord w),  -- 44
  .halfwordMultiply,  -- 45
  .undefMisc,  -- 46
  fun w => .mul (.ofWord w),  -- 47
  fun w => .mla (.ofWord w),  -- 48
  .umaal,  -- 49
  .undefMultiply0101,  -- 50
  fun w => .mls (.ofWord w),  -- 51
  .undefMultiply0111,  -- 52
  fun w => .umull (.ofWord w),  -- 53
  fun w => .umlal (.ofWord w),  -- 54
  fun w => .smull (.ofWord w),  -- 55
  fun w => .smlal (.ofWord w),  -- 56
  fun w => .swp (.ofWord w),  -- 57
  fun w => .strex (.ofWord w),  -- 58
  fun w => .ldrex (.ofWord w)]  -- 59

def builders3 : List (Word → Instr) := [
  .exclusiveWidths,  -- 60
  .undefSync,  -- 61
  .unpredLdrdStrd,  -- 62
  fun w => .strhtImm (.ofWord w),  -- 63
  fun w => .strhtReg (.ofWord w),  -- 64
  fun w => .strhImm (.ofWord w),  -- 65
  fun w => .strhReg (.ofWord w),  -- 66
  fun w => .ldrhtImm (.ofWord w),  -- 67
  fun w => .ldrhtReg (.ofWord w),  -- 68
  fun w => .ldrhImm (.ofWord w),  -- 69
  fun w => .ldrhReg (.ofWord w),  -- 70
  fun w => .ldrdImm (.ofWord w),  -- 71
  fun w => .ldrdReg (.ofWord w),  -- 72
  fun w => .ldrsbtImm (.ofWord w),  -- 73
  fun w => .ldrsbtReg (.ofWord w),  -- 74
  fun w => .ldrsbImm (.ofWord w),  -- 75
  fun w => .ldrsbReg (.ofWord w),  -- 76
  fun w => .strdImm (.ofWord w),  -- 77
  fun w => .strdReg (.ofWord w),  -- 78
  fun w => .ldrshtImm (.ofWord w)]  -- 79

def builders4 : List (Word → Instr) := [
  fun w => .ldrshtReg (.ofWord w),  -- 80
  fun w => .ldrshImm (.ofWord w),  -- 81
  fun w => .ldrshReg (.ofWord w),  -- 82
  fun w => .movw (.ofWord w),  -- 83
  fun w => .movt (.ofWord w),  -- 84
  fun w => .nop (.ofWord w),  -- 85
  fun w => .yield (.ofWord w),  -- 86
  fun w => .wfe (.ofWord w),  -- 87
  fun w => .wfi (.ofWord w),  -- 88
  fun w => .sev (.ofWord w),  -- 89
  fun w => .dbg (.ofWord w),  -- 90
  fun w => .hintUnallocated (.ofWord w),  -- 91
  .unpredMsrImm,  -- 92
  fun w => .msrImm (.ofWord w),  -- 93
  fun w => .andImm (.ofWord w),  -- 94
  fun w => .andReg (.ofWord w),  -- 95
  fun w => .andRsr (.ofWord w),  -- 96
  fun w => .eorImm (.ofWord w),  -- 97
  fun w => .eorReg (.ofWord w),  -- 98
  fun w => .eorRsr (.ofWord w)]  -- 99

def builders5 : List (Word → Instr) := [
  fun w => .subImm (.ofWord w),  -- 100
  fun w => .subReg (.ofWord w),  -- 101
  fun w => .subRsr (.ofWord w),  -- 102
  fun w => .rsbImm (.ofWord w),  -- 103
  fun w => .rsbReg (.ofWord w),  -- 104
  fun w => .rsbRsr (.ofWord w),  -- 105
  fun w => .addImm (.ofWord w),  -- 106
  fun w => .addReg (.ofWord w),  -- 107
  fun w => .addRsr (.ofWord w),  -- 108
  fun w => .adcImm (.ofWord w),  -- 109
  fun w => .adcReg (.ofWord w),  -- 110
  fun w => .adcRsr (.ofWord w),  -- 111
  fun w => .sbcImm (.ofWord w),  -- 112
  fun w => .sbcReg (.ofWord w),  -- 113
  fun w => .sbcRsr (.ofWord w),  -- 114
  fun w => .rscImm (.ofWord w),  -- 115
  fun w => .rscReg (.ofWord w),  -- 116
  fun w => .rscRsr (.ofWord w),  -- 117
  fun w => .tstImm (.ofWord w),  -- 118
  fun w => .tstReg (.ofWord w)]  -- 119

def builders6 : List (Word → Instr) := [
  fun w => .tstRsr (.ofWord w),  -- 120
  fun w => .teqImm (.ofWord w),  -- 121
  fun w => .teqReg (.ofWord w),  -- 122
  fun w => .teqRsr (.ofWord w),  -- 123
  fun w => .cmpImm (.ofWord w),  -- 124
  fun w => .cmpReg (.ofWord w),  -- 125
  fun w => .cmpRsr (.ofWord w),  -- 126
  fun w => .cmnImm (.ofWord w),  -- 127
  fun w => .cmnReg (.ofWord w),  -- 128
  fun w => .cmnRsr (.ofWord w),  -- 129
  fun w => .orrImm (.ofWord w),  -- 130
  fun w => .orrReg (.ofWord w),  -- 131
  fun w => .orrRsr (.ofWord w),  -- 132
  fun w => .movImm (.ofWord w),  -- 133
  fun w => .movReg (.ofWord w),  -- 134
  fun w => .rrx (.ofWord w),  -- 135
  fun w => .lslImm (.ofWord w),  -- 136
  fun w => .lsrImm (.ofWord w),  -- 137
  fun w => .asrImm (.ofWord w),  -- 138
  fun w => .rorImm (.ofWord w)]  -- 139

def builders7 : List (Word → Instr) := [
  fun w => .lslReg (.ofWord w),  -- 140
  fun w => .lsrReg (.ofWord w),  -- 141
  fun w => .asrReg (.ofWord w),  -- 142
  fun w => .rorReg (.ofWord w),  -- 143
  fun w => .bicImm (.ofWord w),  -- 144
  fun w => .bicReg (.ofWord w),  -- 145
  fun w => .bicRsr (.ofWord w),  -- 146
  fun w => .mvnImm (.ofWord w),  -- 147
  fun w => .mvnReg (.ofWord w),  -- 148
  fun w => .mvnRsr (.ofWord w),  -- 149
  fun w => .strtImm (.ofWord w),  -- 150
  fun w => .strtReg (.ofWord w),  -- 151
  fun w => .strImm (.ofWord w),  -- 152
  fun w => .strReg (.ofWord w),  -- 153
  fun w => .ldrtImm (.ofWord w),  -- 154
  fun w => .ldrtReg (.ofWord w),  -- 155
  fun w => .ldrImm (.ofWord w),  -- 156
  fun w => .ldrReg (.ofWord w),  -- 157
  fun w => .strbtImm (.ofWord w),  -- 158
  fun w => .strbtReg (.ofWord w)]  -- 159

def builders8 : List (Word → Instr) := [
  fun w => .strbImm (.ofWord w),  -- 160
  fun w => .strbReg (.ofWord w),  -- 161
  fun w => .ldrbtImm (.ofWord w),  -- 162
  fun w => .ldrbtReg (.ofWord w),  -- 163
  fun w => .ldrbImm (.ofWord w),  -- 164
  fun w => .ldrbReg (.ofWord w),  -- 165
  .parallelAddSub,  -- 166
  .pkh,  -- 167
  fun w => .sxtb16 (.ofWord w),  -- 168
  fun w => .sxtab16 (.ofWord w),  -- 169
  fun w => .sxtb (.ofWord w),  -- 170
  fun w => .sxtab (.ofWord w),  -- 171
  fun w => .sxth (.ofWord w),  -- 172
  fun w => .sxtah (.ofWord w),  -- 173
  fun w => .uxtb16 (.ofWord w),  -- 174
  fun w => .uxtab16 (.ofWord w),  -- 175
  fun w => .uxtb (.ofWord w),  -- 176
  fun w => .uxtab (.ofWord w),  -- 177
  fun w => .uxth (.ofWord w),  -- 178
  fun w => .uxtah (.ofWord w)]  -- 179

def builders9 : List (Word → Instr) := [
  .sel,  -- 180
  .ssat16,  -- 181
  .ssat,  -- 182
  fun w => .rev (.ofWord w),  -- 183
  fun w => .rev16 (.ofWord w),  -- 184
  .usat16,  -- 185
  .usat,  -- 186
  .rbit,  -- 187
  fun w => .revsh (.ofWord w),  -- 188
  .signedMultiply,  -- 189
  .usad8,  -- 190
  fun w => .sbfx (.ofWord w),  -- 191
  fun w => .bfc (.ofWord w),  -- 192
  fun w => .bfi (.ofWord w),  -- 193
  fun w => .udf (.ofWord w),  -- 194
  fun w => .ubfx (.ofWord w),  -- 195
  fun w => .ldmExcReturn (.ofWord w),  -- 196
  fun w => .ldmUser (.ofWord w),  -- 197
  fun w => .stmUser (.ofWord w),  -- 198
  fun w => .stmda (.ofWord w)]  -- 199

def builders10 : List (Word → Instr) := [
  fun w => .ldmda (.ofWord w),  -- 200
  fun w => .stm (.ofWord w),  -- 201
  fun w => .ldm (.ofWord w),  -- 202
  fun w => .stmdb (.ofWord w),  -- 203
  fun w => .ldmdb (.ofWord w),  -- 204
  fun w => .stmib (.ofWord w),  -- 205
  fun w => .ldmib (.ofWord w),  -- 206
  fun w => .b (.ofWord w),  -- 207
  fun w => .bl (.ofWord w),  -- 208
  .undefCoproc00000,  -- 209
  fun w => .svc (.ofWord w),  -- 210
  .vfpLoadStore,  -- 211
  .vfpData,  -- 212
  fun w => .mcrP15 (.ofWord w),  -- 213
  fun w => .mrcP15 (.ofWord w),  -- 214
  fun w => .mcrr (.ofWord w),  -- 215
  fun w => .stc (.ofWord w),  -- 216
  fun w => .cdp (.ofWord w),  -- 217
  fun w => .mcrOther (.ofWord w),  -- 218
  .undefAnyOther]  -- 219

/-- The builders of the 220 rows. -/
def builders : List (Word → Instr) :=
  builders0 ++ builders1 ++ builders2 ++ builders3 ++ builders4 ++ builders5 ++ builders6 ++ builders7 ++ builders8 ++ builders9 ++ builders10

/-- R161: the instruction of a word, total. -/
def decode (w : Word) : Instr := (builders.getD (rowIndex w) .undefAnyOther) w

/-- The word of an instruction: its row's fixed bits and its fields at their positions. -/
def encode : Instr → Word
  | .cps o => o.toWord 0xF1000000
  | .setend o => o.toWord 0xF1010000
  | .simdDataProcessing w => w
  | .simdLoadStore w => w
  | .memHintImm w => w
  | .pliImm o => o.toWord 0xF4500000
  | .unpredPldwImm w => w
  | .pldwImm o => o.toWord 0xF5100000
  | .pldImm o => o.toWord 0xF5500000
  | .unpredUncond1010011 w => w
  | .clrex o => o.toWord 0xF5700010
  | .dsb o => o.toWord 0xF5700040
  | .dmb o => o.toWord 0xF5700050
  | .isb o => o.toWord 0xF5700060
  | .unpredUncond1010111 w => w
  | .unpredUncond1011x11 w => w
  | .memHintReg w => w
  | .pliReg o => o.toWord 0xF6500000
  | .pldwReg o => o.toWord 0xF7100000
  | .pldReg o => o.toWord 0xF7500000
  | .unpredUncond11xxx11 w => w
  | .undefUncondMisc w => w
  | .srs w => w
  | .rfe w => w
  | .blxImm o => o.toWord 0xFA000000
  | .undefUncond1100000 w => w
  | .vfpUncondLoadStore w => w
  | .vfpUncondData w => w
  | .mcrr2 o => o.toWord 0xFC400000
  | .stc2 o => o.toWord 0xFC000000
  | .cdp2 o => o.toWord 0xFE000000
  | .mcr2 o => o.toWord 0xFE000010
  | .undefUncondOther w => w
  | .mrsMsrBanked w => w
  | .mrs o => o.toWord 0x01000000
  | .msrReg o => o.toWord 0x01200000
  | .bx o => o.toWord 0x01200010
  | .clz o => o.toWord 0x01600010
  | .bxj o => o.toWord 0x01200020
  | .blxReg o => o.toWord 0x01200030
  | .qadd o => o.toWord 0x01000050
  | .eret w => w
  | .bkpt o => o.toWord 0x01200070
  | .hvc w => w
  | .smc o => o.toWord 0x01600070
  | .halfwordMultiply w => w
  | .undefMisc w => w
  | .mul o => o.toWord 0x00000090
  | .mla o => o.toWord 0x00200090
  | .umaal w => w
  | .undefMultiply0101 w => w
  | .mls o => o.toWord 0x00600090
  | .undefMultiply0111 w => w
  | .umull o => o.toWord 0x00800090
  | .umlal o => o.toWord 0x00A00090
  | .smull o => o.toWord 0x00C00090
  | .smlal o => o.toWord 0x00E00090
  | .swp o => o.toWord 0x01000090
  | .strex o => o.toWord 0x01800090
  | .ldrex o => o.toWord 0x01900090
  | .exclusiveWidths w => w
  | .undefSync w => w
  | .unpredLdrdStrd w => w
  | .strhtImm o => o.toWord 0x006000B0
  | .strhtReg o => o.toWord 0x002000B0
  | .strhImm o => o.toWord 0x004000B0
  | .strhReg o => o.toWord 0x000000B0
  | .ldrhtImm o => o.toWord 0x007000B0
  | .ldrhtReg o => o.toWord 0x003000B0
  | .ldrhImm o => o.toWord 0x005000B0
  | .ldrhReg o => o.toWord 0x001000B0
  | .ldrdImm o => o.toWord 0x004000D0
  | .ldrdReg o => o.toWord 0x000000D0
  | .ldrsbtImm o => o.toWord 0x007000D0
  | .ldrsbtReg o => o.toWord 0x003000D0
  | .ldrsbImm o => o.toWord 0x005000D0
  | .ldrsbReg o => o.toWord 0x001000D0
  | .strdImm o => o.toWord 0x004000F0
  | .strdReg o => o.toWord 0x000000F0
  | .ldrshtImm o => o.toWord 0x007000F0
  | .ldrshtReg o => o.toWord 0x003000F0
  | .ldrshImm o => o.toWord 0x005000F0
  | .ldrshReg o => o.toWord 0x001000F0
  | .movw o => o.toWord 0x03000000
  | .movt o => o.toWord 0x03400000
  | .nop o => o.toWord 0x03200000
  | .yield o => o.toWord 0x03200001
  | .wfe o => o.toWord 0x03200002
  | .wfi o => o.toWord 0x03200003
  | .sev o => o.toWord 0x03200004
  | .dbg o => o.toWord 0x032000F0
  | .hintUnallocated o => o.toWord 0x03200000
  | .unpredMsrImm w => w
  | .msrImm o => o.toWord 0x03200000
  | .andImm o => o.toWord 0x02000000
  | .andReg o => o.toWord 0x00000000
  | .andRsr o => o.toWord 0x00000010
  | .eorImm o => o.toWord 0x02200000
  | .eorReg o => o.toWord 0x00200000
  | .eorRsr o => o.toWord 0x00200010
  | .subImm o => o.toWord 0x02400000
  | .subReg o => o.toWord 0x00400000
  | .subRsr o => o.toWord 0x00400010
  | .rsbImm o => o.toWord 0x02600000
  | .rsbReg o => o.toWord 0x00600000
  | .rsbRsr o => o.toWord 0x00600010
  | .addImm o => o.toWord 0x02800000
  | .addReg o => o.toWord 0x00800000
  | .addRsr o => o.toWord 0x00800010
  | .adcImm o => o.toWord 0x02A00000
  | .adcReg o => o.toWord 0x00A00000
  | .adcRsr o => o.toWord 0x00A00010
  | .sbcImm o => o.toWord 0x02C00000
  | .sbcReg o => o.toWord 0x00C00000
  | .sbcRsr o => o.toWord 0x00C00010
  | .rscImm o => o.toWord 0x02E00000
  | .rscReg o => o.toWord 0x00E00000
  | .rscRsr o => o.toWord 0x00E00010
  | .tstImm o => o.toWord 0x03100000
  | .tstReg o => o.toWord 0x01100000
  | .tstRsr o => o.toWord 0x01100010
  | .teqImm o => o.toWord 0x03300000
  | .teqReg o => o.toWord 0x01300000
  | .teqRsr o => o.toWord 0x01300010
  | .cmpImm o => o.toWord 0x03500000
  | .cmpReg o => o.toWord 0x01500000
  | .cmpRsr o => o.toWord 0x01500010
  | .cmnImm o => o.toWord 0x03700000
  | .cmnReg o => o.toWord 0x01700000
  | .cmnRsr o => o.toWord 0x01700010
  | .orrImm o => o.toWord 0x03800000
  | .orrReg o => o.toWord 0x01800000
  | .orrRsr o => o.toWord 0x01800010
  | .movImm o => o.toWord 0x03A00000
  | .movReg o => o.toWord 0x01A00000
  | .rrx o => o.toWord 0x01A00060
  | .lslImm o => o.toWord 0x01A00000
  | .lsrImm o => o.toWord 0x01A00020
  | .asrImm o => o.toWord 0x01A00040
  | .rorImm o => o.toWord 0x01A00060
  | .lslReg o => o.toWord 0x01A00010
  | .lsrReg o => o.toWord 0x01A00030
  | .asrReg o => o.toWord 0x01A00050
  | .rorReg o => o.toWord 0x01A00070
  | .bicImm o => o.toWord 0x03C00000
  | .bicReg o => o.toWord 0x01C00000
  | .bicRsr o => o.toWord 0x01C00010
  | .mvnImm o => o.toWord 0x03E00000
  | .mvnReg o => o.toWord 0x01E00000
  | .mvnRsr o => o.toWord 0x01E00010
  | .strtImm o => o.toWord 0x04200000
  | .strtReg o => o.toWord 0x06200000
  | .strImm o => o.toWord 0x04000000
  | .strReg o => o.toWord 0x06000000
  | .ldrtImm o => o.toWord 0x04300000
  | .ldrtReg o => o.toWord 0x06300000
  | .ldrImm o => o.toWord 0x04100000
  | .ldrReg o => o.toWord 0x06100000
  | .strbtImm o => o.toWord 0x04600000
  | .strbtReg o => o.toWord 0x06600000
  | .strbImm o => o.toWord 0x04400000
  | .strbReg o => o.toWord 0x06400000
  | .ldrbtImm o => o.toWord 0x04700000
  | .ldrbtReg o => o.toWord 0x06700000
  | .ldrbImm o => o.toWord 0x04500000
  | .ldrbReg o => o.toWord 0x06500000
  | .parallelAddSub w => w
  | .pkh w => w
  | .sxtb16 o => o.toWord 0x068F0070
  | .sxtab16 o => o.toWord 0x06800070
  | .sxtb o => o.toWord 0x06AF0070
  | .sxtab o => o.toWord 0x06A00070
  | .sxth o => o.toWord 0x06BF0070
  | .sxtah o => o.toWord 0x06B00070
  | .uxtb16 o => o.toWord 0x06CF0070
  | .uxtab16 o => o.toWord 0x06C00070
  | .uxtb o => o.toWord 0x06EF0070
  | .uxtab o => o.toWord 0x06E00070
  | .uxth o => o.toWord 0x06FF0070
  | .uxtah o => o.toWord 0x06F00070
  | .sel w => w
  | .ssat16 w => w
  | .ssat w => w
  | .rev o => o.toWord 0x06B00030
  | .rev16 o => o.toWord 0x06B000B0
  | .usat16 w => w
  | .usat w => w
  | .rbit w => w
  | .revsh o => o.toWord 0x06F000B0
  | .signedMultiply w => w
  | .usad8 w => w
  | .sbfx o => o.toWord 0x07A00050
  | .bfc o => o.toWord 0x07C0001F
  | .bfi o => o.toWord 0x07C00010
  | .udf o => o.toWord 0x07F000F0
  | .ubfx o => o.toWord 0x07E00050
  | .ldmExcReturn o => o.toWord 0x08508000
  | .ldmUser o => o.toWord 0x08500000
  | .stmUser o => o.toWord 0x08400000
  | .stmda o => o.toWord 0x08000000
  | .ldmda o => o.toWord 0x08100000
  | .stm o => o.toWord 0x08800000
  | .ldm o => o.toWord 0x08900000
  | .stmdb o => o.toWord 0x09000000
  | .ldmdb o => o.toWord 0x09100000
  | .stmib o => o.toWord 0x09800000
  | .ldmib o => o.toWord 0x09900000
  | .b o => o.toWord 0x0A000000
  | .bl o => o.toWord 0x0B000000
  | .undefCoproc00000 w => w
  | .svc o => o.toWord 0x0F000000
  | .vfpLoadStore w => w
  | .vfpData w => w
  | .mcrP15 o => o.toWord 0x0E000F10
  | .mrcP15 o => o.toWord 0x0E100F10
  | .mcrr o => o.toWord 0x0C400000
  | .stc o => o.toWord 0x0C000000
  | .cdp o => o.toWord 0x0E000000
  | .mcrOther o => o.toWord 0x0E000010
  | .undefAnyOther w => w

/-- Why bytes are no instruction: `truncated`, fewer than the four bytes of one word (R160). -/
inductive DecodeReject where
  | truncated
  deriving DecidableEq, Repr

/-- The decoder on bytes, lowest address first (R102: little-endian): the instruction and the bytes after it. -/
def decodeBytes : List Byte → Except DecodeReject (Instr × List Byte)
  | b0 :: b1 :: b2 :: b3 :: rest => .ok (decode (wordOfBytes b0 b1 b2 b3), rest)
  | _ => .error .truncated

/-- The encoder to bytes, lowest address first. -/
def encodeBytes (i : Instr) : List Byte := bytesOfWord (encode i)

/-- The instruction the decoder reads from an instruction whose bits are `w`, numbered as the opcode table numbers them:
every instruction is one 32-bit word (R160), and bits above `nbits` are 0. -/
def decodeTableWord (nbits w : Nat) : Option Instr :=
  match decodeBytes (bytesOfWord (BitVec.ofNat 32 (w % 2 ^ nbits))) with
  | .ok (i, _) => some i
  | .error _ => none

end Sys2Proof
end

