-- ==== Sys2Proof/Config.lean ====
section
/-! DEFINITION. What an implementation of the core fixes (the parameters of rule R6 of spec/00_scope.md) and
the values the spec leaves free. The parameters are plain data that the machine's state carries unchanged,
so a statement about every state is a statement about every value of every parameter. The free values are
opaque constants: nothing can be proved of them (log entries 1, 2, 3, 6, 20 and 21). -/

namespace Sys2Proof

/-- `NMFI_POLICY` (R6, R39; conflict C3, decision D48): which write of CPSR.F a set SCTLR.NMFI suppresses. -/
inductive NmfiPolicy where
  /-- The default: a write that would clear F is suppressed, as the source says. -/
  | source
  /-- The alternative: a write that would set F is suppressed, as in ARMv7-A. -/
  | arch
  deriving DecidableEq, Repr

/-- The identification registers (R61, R74): read-only, each a parameter of R6 left OPEN by decision D7. -/
structure IdRegs where
  midr : Word
  ctr : Word
  mpidr : Word
  idPfr0 : Word
  idPfr1 : Word
  idDfr0 : Word
  idAfr0 : Word
  idMmfr0 : Word
  idMmfr1 : Word
  idMmfr2 : Word
  idMmfr3 : Word
  idIsar0 : Word
  idIsar1 : Word
  idIsar2 : Word
  idIsar3 : Word
  idIsar4 : Word
  idIsar5 : Word
  clidr : Word
  /-- `CCSIDR_VALUE(csselr)`: one word for each of the 16 values of CSSELR[3:0]. -/
  ccsidr : Vector Word 16
  deriving DecidableEq, Repr

/-- A range of physical addresses, both ends in it. -/
structure Window where
  first : Word
  last : Word
  deriving DecidableEq, Repr

/-- R104, R110, R120: what a read of the memory port is made for: a descriptor of a walk, or the bytes accessed. -/
inductive PortUse where
  | firstLevel
  | secondLevel
  | bytes
  deriving DecidableEq, Repr

/-- R105: which of its reads of the memory port a step makes: what for, whether for the fetch, and for which virtual
address. -/
structure PortRead where
  use : PortUse
  fetch : Bool
  va : Word
  deriving DecidableEq, Repr

/-- The implementation parameters of R6 that a model takes as an argument. -/
structure Params where
  /-- `MIDR_VALUE` and the other identification values. -/
  ids : IdRegs
  /-- `ACTLR_RESET`: the reset value of ACTLR. -/
  actlrReset : Word
  /-- `VINITHI`: the reset value of SCTLR.V; default 0 (D23). -/
  vinithi : Bool
  /-- `CFGNMFI`: the value of the read-only bit SCTLR.NMFI; default 0 (D23). -/
  cfgnmfi : Bool
  /-- `NMFI_POLICY`; default `SOURCE` (D48). -/
  nmfiPolicy : NmfiPolicy
  /-- `ENFORCE_XN`; decided false (D15). -/
  enforceXn : Bool
  /-- `PhysMem`, its behaviour (R100, R105, D47): the physical addresses whose reads have side effects, with the
  addresses those effects change. What memory holds, the other half of `PhysMem`, is in the state (log entry 6). -/
  volatile : List Window
  deriving DecidableEq, Repr

/-- DESIGN CHOICE (log entry 1), unsafe: the spec gives no identification value, so the one this model
names for its reset state is zero. -/
def IdRegs.zero : IdRegs where
  midr := 0
  ctr := 0
  mpidr := 0
  idPfr0 := 0
  idPfr1 := 0
  idDfr0 := 0
  idAfr0 := 0
  idMmfr0 := 0
  idMmfr1 := 0
  idMmfr2 := 0
  idMmfr3 := 0
  idIsar0 := 0
  idIsar1 := 0
  idIsar2 := 0
  idIsar3 := 0
  idIsar4 := 0
  idIsar5 := 0
  clidr := 0
  ccsidr := Vector.replicate 16 0

/-- The parameters of `State.reset`: the defaults of R6 where R6 gives one; DESIGN CHOICE zero for the open
values (log entries 1 and 2) and no address with read side effects (log entry 6). -/
def Params.default : Params where
  ids := IdRegs.zero
  actlrReset := 0
  vinithi := false
  cfgnmfi := false
  nmfiPolicy := .source
  enforceXn := false
  volatile := []

/-- `ResetDraw` (R6, R580): the values of everything that is UNKNOWN after reset. -/
structure ResetDraw where
  /-- The 32 register cells of R31. -/
  cells : Vector Word 32
  /-- CPSR.N, Z, C, V, Q (bits 31 to 27). -/
  nzcvq : BitVec 5
  /-- CPSR.GE[3:0]. -/
  ge : BitVec 4
  spsrFiq : Word
  spsrIrq : Word
  spsrSvc : Word
  spsrMon : Word
  spsrAbt : Word
  spsrUnd : Word
  csselr : BitVec 4
  ttbr0 : Word
  ttbr1 : Word
  dacr : Word
  dfsr : Word
  ifsr : Word
  dfar : Word
  ifar : Word
  prrr : Word
  nmrr : Word
  contextidr : Word
  tpidrurw : Word
  tpidruro : Word
  tpidrprw : Word
  deriving DecidableEq, Repr

/-- DESIGN CHOICE (log entry 3), unsafe: the spec draws these values freely; the one draw behind
`State.reset` is zero everywhere. -/
def ResetDraw.zero : ResetDraw where
  cells := Vector.replicate 32 0
  nzcvq := 0
  ge := 0
  spsrFiq := 0
  spsrIrq := 0
  spsrSvc := 0
  spsrMon := 0
  spsrAbt := 0
  spsrUnd := 0
  csselr := 0
  ttbr0 := 0
  ttbr1 := 0
  dacr := 0
  dfsr := 0
  ifsr := 0
  dfar := 0
  ifar := 0
  prrr := 0
  nmrr := 0
  contextidr := 0
  tpidrurw := 0
  tpidruro := 0
  tpidrprw := 0

/-- The free draws of a step (R11 `UNKNOWN`, spec/93_implementation_defined.md section 2): the k-th word a
run draws. Used for a register already loaded by an LDM or LDRD that then aborts (R342, D13). -/
opaque Config.freeWord : Nat → Word

/-- The byte that a read of a volatile physical address answers (R100, R105, D47; log entry 6): the k-th step of a run,
the read of that step, the address. A read of such an address may change what it holds, so each step reads its own bytes. -/
opaque Config.volatileByte : Nat → PortRead → Word → Byte

/-- Whether the k-th waiting step of a run ends its WFI wait spuriously (R467, D27: a model may end a wait
at any step; section 4 of spec/93_implementation_defined.md lists it as `any`). -/
opaque Config.spuriousWake : Nat → Bool

end Sys2Proof
end

