-- ==== Sys2Proof/Machine/State.lean ====
section
/-! DEFINITION. The state of the core: every piece of state the spec gives it (rules R30 to R79 of
spec/10_state.md, the physical memory of R100), the reasons a step can stop, and the state after reset
(R580). Plain data: no field holds a function. -/

namespace Sys2Proof.Machine

/-- R35: the eight modes; any other value of M is a bad mode. -/
inductive Mode where
  | usr
  | fiq
  | irq
  | svc
  | mon
  | abt
  | und
  | sys
  deriving DecidableEq, Repr

/-- R60: the key of a CP15 register, the fields (CRn, opc1, CRm, opc2) of MCR and MRC. -/
structure Cp15Key where
  crn : BitVec 4
  opc1 : BitVec 3
  crm : BitVec 4
  opc2 : BitVec 3
  deriving DecidableEq, Repr

/-- R60: the direction of an access to a CP15 register: MRC reads, MCR writes. -/
inductive Direction where
  | read
  | write
  deriving DecidableEq, Repr

/-- The features whose use halts with `Halt(NotImplemented(feature))`: the instruction classes of R192, the
execution states of R37 and R528, and the configurations of R102, R113 and R525. -/
inductive Feature where
  | thumb
  | jazelle
  | bigEndian
  | lpae
  | accessFlag
  | walkDisable
  | supersection
  | largePage
  | vectoredInterrupts
  | halfwordMultiply
  | umaal
  | saturating
  | parallelAddSub
  | pkh
  | sel
  | rbit
  | signedMultiply
  | usad8
  | swp
  | exclusiveWidth
  | srs
  | rfe
  | smc
  | bkpt
  deriving DecidableEq, Repr

/-- The categories of `Halt(Unpredictable(category))`: R11 makes the category the rule's own number, except
where the spec names one. -/
inductive Unpred where
  /-- The case that rule `R<n>` calls UNPREDICTABLE (R11). -/
  | rule (n : Nat)
  /-- R33, R39, R46: a write of a mode that is none of R35. -/
  | badMode
  /-- R38: an access to the SPSR of User or System mode. -/
  | noSPSR
  /-- R170: LDRD or STRD with P = 0 and W = 1. -/
  | ldrdStrdPostWback
  /-- R416: a store multiple with write-back whose base is in the list and not its lowest register. -/
  | stmBaseNotLowest
  /-- R115: the reserved access permission AP[2] = 1, AP[1:0] = 00. -/
  | apReserved
  /-- R116: the reserved domain policy 0b10. -/
  | domainReserved
  deriving DecidableEq, Repr

/-- The reasons of the terminal state `Halted(reason)` (R5, R11). The spec's UnknownInstruction and DecodeError
are never produced (R161, C8), so they have no constructor (log entry 7). Every one is safe: the core itself
stops there, and a stopped machine makes no further claim true. -/
inductive Fault where
  /-- `Halt(Unpredictable(category))` (R190): raised by a meaning whose encoding, operands or state the spec calls
  UNPREDICTABLE, and by the translation for a reserved permission or domain. Safe: the spec halts here. -/
  | unpredictable (c : Unpred)
  /-- `Halt(NotImplemented(feature))` (R192, R113, R102, R37, R525): raised by an instruction, descriptor or
  configuration the core does not implement. Safe: the spec halts here. -/
  | notImplemented (f : Feature)
  /-- `Halt(SIMDorVFP)` (R193): raised by the coprocessor 10 and 11 and the Advanced SIMD rows. Safe: the spec
  halts here. -/
  | simdOrVfp
  /-- `Halt(CP15Unsupported(key, direction))` (R60): raised by an MCR or MRC whose key is not in the map, or that
  goes against the register's direction. Safe: the spec halts here. -/
  | cp15Unsupported (key : Cp15Key) (dir : Direction)
  deriving DecidableEq, Repr

/-- Why a step has no meaning. -/
inductive Refusal where
  /-- The instruction has no meaning in this model yet. Raised by `exec` only; no arm of it answers so: every
  instruction has its meaning. Safe: nothing is claimed of it. -/
  | notModelled (mnemonic : String)
  deriving DecidableEq, Repr

/-- R38: the six saved program status registers. -/
structure Spsrs where
  fiq : Word
  irq : Word
  svc : Word
  mon : Word
  abt : Word
  und : Word
  deriving DecidableEq, Repr

/-- R61: the CP15 registers that hold a stored value. The identification registers are in `Params.ids`; CPACR,
TCMTR and TLBTR are hard-wired to 0 (R72, R74; log entry 4). -/
structure Cp15 where
  /-- CSSELR, of which only bits 3:0 are stored. -/
  csselr : BitVec 4
  sctlr : Word
  actlr : Word
  ttbr0 : Word
  ttbr1 : Word
  ttbcr : Word
  dacr : Word
  dfsr : Word
  ifsr : Word
  dfar : Word
  ifar : Word
  prrr : Word
  nmrr : Word
  contextidr : Word
  tpidrurw : Word
  tpidruro : Word
  tpidrprw : Word
  deriving DecidableEq, Repr

/-- R51: the local exclusive monitor, `Open` or `Exclusive(pa)`. -/
inductive Monitor where
  | idle
  | exclusive (pa : Word)
  deriving DecidableEq, Repr

/-- The physical memory (R100, R101): the bytes that differ from what an unlisted address reads as. -/
structure Memory where
  cells : List Host.Cell
  deriving DecidableEq, Repr

/-- The state of the core. -/
structure State where
  /-- R31: the 32 physical register cells: 0-14 usr r0-r14, 15-21 fiq r8-r14, then r13 and r14 of irq, svc, mon,
  abt and und. -/
  cells : Vector Word 32
  /-- R44: the address of the instruction being executed. -/
  pc : Word
  /-- R36. -/
  cpsr : Word
  /-- R38. -/
  spsr : Spsrs
  /-- R61. -/
  cp15 : Cp15
  /-- R43, R50: the deferred PC write of the executing instruction; `none` at a boundary. -/
  pendingBranch : Option Word
  /-- R50, R540. -/
  irqPending : Bool
  /-- R50, R540. -/
  fiqPending : Bool
  /-- R51. -/
  monitor : Monitor
  /-- R50, R467: the core is in a WFI wait. -/
  waiting : Bool
  /-- R50, R5: the terminal state and its reason (log entry 7). -/
  halted : Option Fault
  /-- R100. -/
  mem : Memory
  /-- R6: the implementation's parameters, which no step changes (log entries 1 and 2). -/
  params : Params
  /-- The model's own field (log entry 20): how many free values the run has drawn. -/
  draws : Nat
  deriving DecidableEq, Repr

/-- R62, R580: the reset value of SCTLR. -/
def resetSctlr (p : Params) : Word :=
  0x00C50078 ||| (if p.vinithi then 0x00002000 else 0) ||| (if p.cfgnmfi then 0x08000000 else 0)

/-- R580: CPSR after reset: M = SVC, A = I = F = 1, T = E = J = 0, IT = 0, bits 23:20 = 0, the rest drawn. -/
def resetCpsr (d : ResetDraw) : Word :=
  0x000001D3 ||| (d.nzcvq.setWidth 32 <<< 27) ||| (d.ge.setWidth 32 <<< 16)

/-- R580: the whole state after reset, for every parameter, every draw of what is UNKNOWN, and every memory (reset
does not change it). -/
def State.resetFrom (p : Params) (d : ResetDraw) (m : Memory) (draws : Nat) : State where
  cells := d.cells
  pc := if p.vinithi then 0xFFFF0000 else 0x00000000
  cpsr := resetCpsr d
  spsr := { fiq := d.spsrFiq, irq := d.spsrIrq, svc := d.spsrSvc, mon := d.spsrMon, abt := d.spsrAbt, und := d.spsrUnd }
  cp15 :=
    { csselr := d.csselr, sctlr := resetSctlr p, actlr := p.actlrReset, ttbr0 := d.ttbr0, ttbr1 := d.ttbr1, ttbcr := 0,
      dacr := d.dacr, dfsr := d.dfsr, ifsr := d.ifsr, dfar := d.dfar, ifar := d.ifar, prrr := d.prrr, nmrr := d.nmrr,
      contextidr := d.contextidr, tpidrurw := d.tpidrurw, tpidruro := d.tpidruro, tpidrprw := d.tpidrprw }
  pendingBranch := none
  irqPending := false
  fiqPending := false
  monitor := .idle
  waiting := false
  halted := none
  mem := m
  params := p
  draws := draws

/-- The machine right after power-on reset: the default parameters, the draw this model names (log entries 1, 2
and 3), nothing listed in memory (log entry 5). -/
def State.reset : State := State.resetFrom Params.default ResetDraw.zero { cells := [] } 0

end Sys2Proof.Machine
end

