-- ==== Sys2Proof/Machine/Memory.lean ====
section
/-! DEFINITION. The physical memory port (R100): bytes at 32-bit physical addresses, composed little-endian
(R103). Memory is kept in one canonical form: addresses strictly rising and below 2^32, and no entry equal to
what an unlisted address reads as, so that equal memories are equal data. -/

namespace Sys2Proof.Machine

/-- What a physical address that nothing lists reads as. DESIGN CHOICE (log entry 5), unsafe: R100 and D47
leave the contents of memory open. -/
def unlistedByte : Byte := 0

/-- The byte listed at an address. -/
def readCells : List Host.Cell → Nat → Byte
  | [], _ => unlistedByte
  | (k, b) :: rest, a => if k = a then b else readCells rest a

/-- The list with byte `b` at address `a`, in canonical form. -/
def writeCells : List Host.Cell → Nat → Byte → List Host.Cell
  | [], a, b => if b = unlistedByte then [] else [(a, b)]
  | (k, c) :: rest, a, b =>
    if a < k then (if b = unlistedByte then (k, c) :: rest else (a, b) :: (k, c) :: rest)
    else if a = k then (if b = unlistedByte then rest else (a, b) :: rest)
    else (k, c) :: writeCells rest a b

/-- The canonical form of a list whose addresses are at least `lo`. -/
def cellsFrom : Nat → List Host.Cell → Bool
  | _, [] => true
  | lo, (k, b) :: rest => decide (lo ≤ k) && decide (k < 2 ^ 32) && decide (b ≠ unlistedByte) && cellsFrom (k + 1) rest

/-- The canonical form of a memory. -/
def Memory.wf (m : Memory) : Bool := cellsFrom 0 m.cells

/-- The byte at a physical address. -/
def Memory.read (m : Memory) (pa : Word) : Byte := readCells m.cells pa.toNat

/-- The memory with one byte replaced. -/
def Memory.write (m : Memory) (pa : Word) (b : Byte) : Memory := { cells := writeCells m.cells pa.toNat b }

/-- R104: the widths of a memory access. -/
inductive Width where
  | byte
  | half
  | word
  deriving DecidableEq, Repr

/-- The number of bytes of a width. -/
def Width.bytes : Width → Nat
  | .byte => 1
  | .half => 2
  | .word => 4

/-- R100, R103: the `n` bytes that `byte` gives from `pa` upwards (modulo 2^32), the lowest address least significant. -/
def joinBytes (byte : Word → Byte) (pa : Word) : Nat → Word
  | 0 => 0
  | n + 1 => place (byte pa) 0 ||| (joinBytes byte (pa + 1) n <<< 8)

/-- R100, R103: the low `n` bytes of `v` stored from `pa` upwards (modulo 2^32). -/
def Memory.writeBytes (m : Memory) (pa : Word) : Nat → Word → Memory
  | 0, _ => m
  | n + 1, v => (m.write pa (byteOf v 0)).writeBytes (pa + 1) n (v >>> 8)

/-- R105: the physical address is one whose reads have side effects (log entry 6). -/
def volatileAt (p : Params) (pa : Word) : Bool :=
  p.volatile.any fun w => decide (w.first ≤ pa) && decide (pa ≤ w.last)

/-- R100, R105: the byte that read `r` of the port answers at a physical address: what memory holds there, or, where reads
have side effects, a free value (log entry 6). -/
def State.portByte (s : State) (r : PortRead) (pa : Word) : Byte :=
  if volatileAt s.params pa then Config.volatileByte s.draws r pa else s.mem.read pa

/-- R100: `PhysRead(pa, n)`. -/
def State.physRead (s : State) (r : PortRead) (pa : Word) (w : Width) : Word := joinBytes (s.portByte r) pa w.bytes

/-- R100: `PhysWrite(pa, n, v)`. -/
def State.physWrite (s : State) (pa : Word) (w : Width) (v : Word) : State :=
  { s with mem := s.mem.writeBytes pa w.bytes v }

end Sys2Proof.Machine
end

