-- ==== Sys2Proof/Machine/Flags.lean ====
section
/-! DEFINITION. The flag computations: the ShiftALU primitives `AddWithCarry` (R220) and `Shift_C` (R221), the
condition test (R47) and the flag fields of a program status register (R36). -/

namespace Sys2Proof.Machine

/-- A result with its carry and overflow. -/
structure AluResult where
  value : Word
  carry : Bool
  overflow : Bool
  deriving DecidableEq, Repr

/-- R220: the sum is exact, the result is its low 32 bits, carry and overflow say whether the unsigned and the
signed reading of the result differ from the exact sums. -/
def addWithCarry (x y : Word) (carryIn : Bool) : AluResult :=
  let usum := x.toNat + y.toNat + carryIn.toNat
  let ssum := x.toInt + y.toInt + (carryIn.toNat : Int)
  let result := BitVec.ofNat 32 usum
  { value := result, carry := result.toNat != usum, overflow := result.toInt != ssum }

/-- R186, R221: the shift types. -/
inductive ShiftType where
  | lsl
  | lsr
  | asr
  | ror
  | rrx
  deriving DecidableEq, Repr

/-- R221: `Shift_C(value, type, amount, carry_in)`, the result and the carry out. -/
def shiftC (value : Word) (ty : ShiftType) (amount : Nat) (carryIn : Bool) : Word × Bool :=
  if amount = 0 then (value, carryIn) else
  match ty with
  | .lsl => (value <<< amount, decide (amount ≤ 32) && bit value (32 - amount))
  | .lsr => (value >>> amount, decide (amount ≤ 32) && bit value (amount - 1))
  | .asr => (value.sshiftRight amount, if 32 ≤ amount then bit value 31 else bit value (amount - 1))
  | .ror => (ror value amount, bit (ror value amount) 31)
  | .rrx => (placeBit carryIn 31 ||| (value >>> 1), bit value 0)

/-- R36: the negative flag. -/
def psrN (w : Word) : Bool := bit w 31
/-- R36: the zero flag. -/
def psrZ (w : Word) : Bool := bit w 30
/-- R36: the carry flag. -/
def psrC (w : Word) : Bool := bit w 29
/-- R36: the overflow flag. -/
def psrV (w : Word) : Bool := bit w 28
/-- R36: the data endianness bit E. -/
def psrE (w : Word) : Bool := bit w 9
/-- R36: the asynchronous abort mask A. -/
def psrA (w : Word) : Bool := bit w 8
/-- R36: the IRQ mask I. -/
def psrI (w : Word) : Bool := bit w 7
/-- R36: the FIQ mask F. -/
def psrF (w : Word) : Bool := bit w 6
/-- R36: the Thumb state bit T. -/
def psrT (w : Word) : Bool := bit w 5
/-- R36: the Jazelle state bit J. -/
def psrJ (w : Word) : Bool := bit w 24
/-- R36: the mode field M[4:0]. -/
def psrM (w : Word) : BitVec 5 := slice w 0 5

/-- R36: the bits of IT[1:0] (26:25) and IT[7:2] (15:10). -/
def itMask : Word := 0x0600FC00

/-- The status word with N, Z, C and V replaced and every other bit kept. -/
def setNZCV (w : Word) (n z c v : Bool) : Word :=
  merge 0xF0000000 w (placeBit n 31 ||| placeBit z 30 ||| placeBit c 29 ||| placeBit v 28)

/-- The status word with N and Z replaced and every other bit kept. -/
def setNZ (w : Word) (n z : Bool) : Word := merge 0xC0000000 w (placeBit n 31 ||| placeBit z 30)

/-- R47: the base test of `cond[3:1]`. -/
def baseCondition (c : BitVec 3) (psr : Word) : Bool :=
  match c.toNat with
  | 0 => psrZ psr
  | 1 => psrC psr
  | 2 => psrN psr
  | 3 => psrV psr
  | 4 => psrC psr && !psrZ psr
  | 5 => psrN psr == psrV psr
  | 6 => psrN psr == psrV psr && !psrZ psr
  | _ => true

/-- R47: `ConditionPassed()`: the base test, inverted for an odd condition other than 1111. -/
def conditionPassed (cond : Cond) (psr : Word) : Bool :=
  let base := baseCondition (cond.extractLsb' 1 3) psr
  if cond.getLsbD 0 && cond != condUnconditional then !base else base

end Sys2Proof.Machine
end

