-- ==== Sys2Proof/Machine/Ops.lean ====
section
/-! DEFINITION. The named operations of the core: registers and modes (R30 to R35), status registers (R36 to R46),
PC writes (R40 to R43), taking an exception and returning from one (R520 to R528), and how an instruction's
body becomes an outcome (R13, R14, R43). -/

namespace Sys2Proof.Machine

/-- The outcome of a step or of an instruction. -/
abbrev Out := Host.Outcome State Fault Refusal

/-! ### Modes and registers -/

/-- R35: the encoding of a mode. -/
def Mode.bits : Mode → BitVec 5
  | .usr => 0x10
  | .fiq => 0x11
  | .irq => 0x12
  | .svc => 0x13
  | .mon => 0x16
  | .abt => 0x17
  | .und => 0x1B
  | .sys => 0x1F

/-- R35: the mode of an encoding, none for a bad mode. -/
def Mode.ofBits (m : BitVec 5) : Option Mode :=
  match m.toNat with
  | 0x10 => some .usr
  | 0x11 => some .fiq
  | 0x12 => some .irq
  | 0x13 => some .svc
  | 0x16 => some .mon
  | 0x17 => some .abt
  | 0x1B => some .und
  | 0x1F => some .sys
  | _ => none

/-- R35: `BadMode(m)`. -/
def badMode (m : BitVec 5) : Bool := (Mode.ofBits m).isNone

/-- The current mode, CPSR.M. In a state that no run reaches, with a bad mode in CPSR, System (log entry 13). -/
def State.mode (s : State) : Mode := (Mode.ofBits (psrM s.cpsr)).getD .sys

/-- R39, R114, R545: any mode other than User. -/
def State.privileged (s : State) : Bool := psrM s.cpsr != Mode.usr.bits

/-- R31, R32: the cell that mode `m` sees as register `i` (i at most 14). -/
def cellOf (m : Mode) (i : Reg) : Fin 32 :=
  let n := i.toNat
  Fin.ofNat 32 <|
    if n < 8 then n
    else match m with
      | .usr | .sys => n
      | .fiq => n + 7
      | .irq => if n < 13 then n else n + 9
      | .svc => if n < 13 then n else n + 11
      | .mon => if n < 13 then n else n + 13
      | .abt => if n < 13 then n else n + 15
      | .und => if n < 13 then n else n + 17

/-- R9: `Rmode[i, m]`, register `i` (0 to 14) of mode `m`. -/
def State.rmode (s : State) (m : Mode) (i : Reg) : Word := s.cells.get (cellOf m i)

/-- R9: `Rmode[i, m] <- v`; r15 is no cell and is not written so. -/
def State.setRmode (s : State) (m : Mode) (i : Reg) (v : Word) : State :=
  if i = pcReg then s else { s with cells := s.cells.set (cellOf m i) v }

/-- R9, R44: `R[i]` in the current mode; r15 reads as the address of the current instruction plus 8. -/
def State.reg (s : State) (i : Reg) : Word := if i = pcReg then s.pc + 8 else s.rmode s.mode i

/-- R9: `R[i] <- v` in the current mode, i at most 14. -/
def State.setReg (s : State) (i : Reg) (v : Word) : State := s.setRmode s.mode i v

/-- R45: `PCStoreValue()`. -/
def State.pcStoreValue (s : State) : Word := s.pc + 8

/-! ### Derived system state (R77) -/

def State.mmuEnabled (s : State) : Bool := bit s.cp15.sctlr 0

def State.checkUnaligned (s : State) : Bool := bit s.cp15.sctlr 1

def State.vectorBase (s : State) : Word := if bit s.cp15.sctlr 13 then 0xFFFF0000 else 0x00000000

def State.ttbcrN (s : State) : Nat := (slice s.cp15.ttbcr 0 3).toNat

/-- `TTBR0[31:14-N] : Zeros(14-N)`. -/
def State.ttb0Base (s : State) : Word := (s.cp15.ttbr0 >>> (14 - s.ttbcrN)) <<< (14 - s.ttbcrN)

def State.ttb1Base (s : State) : Word := (s.cp15.ttbr1 >>> 14) <<< 14

/-- `DACR[2d+1 : 2d]`. -/
def State.domainPolicy (s : State) (d : BitVec 4) : BitVec 2 := slice s.cp15.dacr (2 * d.toNat) 2

def State.asid (s : State) : BitVec 8 := slice s.cp15.contextidr 0 8

/-! ### The result of an instruction's body -/

/-- R118: the faults of a memory access. -/
inductive FaultStatus where
  | alignment
  | translationSection
  | translationPage
  | domainSection
  | domainPage
  | permissionSection
  | permissionPage
  deriving DecidableEq, Repr

/-- R118: the fault status code FS[4:0]. -/
def FaultStatus.code : FaultStatus → BitVec 5
  | .alignment => 0b00001
  | .translationSection => 0b00101
  | .translationPage => 0b00111
  | .domainSection => 0b01001
  | .domainPage => 0b01011
  | .permissionSection => 0b01101
  | .permissionPage => 0b01111

/-- R11, R520: the synchronous exceptions an instruction or a fetch raises. -/
inductive Exc where
  | undefined
  | supervisorCall
  | dataAbort (va : Word) (status : FaultStatus) (isWrite : Bool)
  | prefetchAbort (va : Word) (status : FaultStatus)
  deriving DecidableEq, Repr

/-- What a piece of an instruction ends in: a value and the state so far, a raised exception and the state it
leaves (R342: stores already made), or a halt (R5). -/
inductive Res (α : Type) where
  | ok (a : α) (s : State)
  | exc (e : Exc) (s : State)
  | halt (f : Fault)

/-- R12: one piece after another; an exception or a halt abandons the rest. -/
def Res.andThen {α β : Type} (r : Res α) (k : α → State → Res β) : Res β :=
  match r with
  | .ok a s => k a s
  | .exc e s => .exc e s
  | .halt f => .halt f

/-- A piece that only changes the state. -/
def Res.done (s : State) : Res Unit := .ok () s

/-! ### Status registers -/

/-- R38: the SPSR of a mode, none for User and System. -/
def Spsrs.get (r : Spsrs) : Mode → Option Word
  | .fiq => some r.fiq
  | .irq => some r.irq
  | .svc => some r.svc
  | .mon => some r.mon
  | .abt => some r.abt
  | .und => some r.und
  | .usr | .sys => none

/-- R38: the SPSRs with that of one mode replaced; User and System have none. -/
def Spsrs.set (r : Spsrs) (m : Mode) (v : Word) : Spsrs :=
  match m with
  | .fiq => { r with fiq := v }
  | .irq => { r with irq := v }
  | .svc => { r with svc := v }
  | .mon => { r with mon := v }
  | .abt => { r with abt := v }
  | .und => { r with und := v }
  | .usr | .sys => r

/-- R39: `NMFI_BLOCKS(nmfi, f)` under the policy of the parameters. -/
def nmfiBlocks (policy : NmfiPolicy) (nmfi f : Bool) : Bool :=
  match policy with
  | .source => nmfi && !f
  | .arch => nmfi && f

/-- R39: the bits of CPSR that a masked write replaces. -/
def cpsrWriteMask (bytemask : BitVec 4) (execState privileged blockF : Bool) : Word :=
  maskIf (bytemask.getLsbD 3) (0xF8000000 ||| maskIf execState 0x07000000)
    ||| maskIf (bytemask.getLsbD 2) 0x000F0000
    ||| maskIf (bytemask.getLsbD 1) (maskIf execState 0x0000FC00 ||| 0x00000200 ||| maskIf privileged 0x00000100)
    ||| maskIf (bytemask.getLsbD 0)
      (maskIf privileged (0x0000009F ||| maskIf (!blockF) 0x00000040) ||| maskIf execState 0x00000020)

/-- R37: the halt of a CPSR that would leave ARM state: Thumb for T or IT, else Jazelle for J (log entry 18). -/
def execStateFault (psr : Word) : Option Fault :=
  if psrT psr || psr &&& itMask != 0 then some (.notImplemented .thumb)
  else if psrJ psr then some (.notImplemented .jazelle)
  else none

/-- R39: the value `CPSRWriteByInstr` gives CPSR. -/
def State.cpsrWritten (s : State) (value : Word) (bytemask : BitVec 4) (execState : Bool) : Word :=
  merge (cpsrWriteMask bytemask execState s.privileged
    (nmfiBlocks s.params.nmfiPolicy (bit s.cp15.sctlr 27) (psrF value))) s.cpsr value

/-- R39: `CPSRWriteByInstr(value, bytemask, affect_execstate)`. -/
def cpsrWriteByInstr (value : Word) (bytemask : BitVec 4) (execState : Bool) (s : State) : Res Unit :=
  if bytemask.getLsbD 0 && s.privileged && badMode (psrM value) then .halt (.unpredictable .badMode)
  else
    match execStateFault (s.cpsrWritten value bytemask execState) with
    | some f => .halt f
    | none => .done { s with cpsr := s.cpsrWritten value bytemask execState }

/-- R46: the bits of an SPSR that a masked write replaces. -/
def spsrWriteMask (bytemask : BitVec 4) : Word :=
  maskIf (bytemask.getLsbD 3) 0xFF000000 ||| maskIf (bytemask.getLsbD 2) 0x000F0000
    ||| maskIf (bytemask.getLsbD 1) 0x0000FF00 ||| maskIf (bytemask.getLsbD 0) 0x000000FF

/-- R46: `SPSRWriteByInstr(value, bytemask)`. A bad mode halts with the category that R33 names for one (log entry 9). -/
def spsrWriteByInstr (value : Word) (bytemask : BitVec 4) (s : State) : Res Unit :=
  match s.spsr.get s.mode with
  | none => .halt (.unpredictable .noSPSR)
  | some old =>
    if bytemask.getLsbD 0 && badMode (psrM value) then .halt (.unpredictable .badMode)
    else .done { s with spsr := s.spsr.set s.mode (merge (spsrWriteMask bytemask) old value) }

/-! ### PC writes -/

/-- R40: `BranchWritePC(address)`. -/
def State.branchWritePC (s : State) (address : Word) : State :=
  { s with pendingBranch := some (address &&& 0xFFFFFFFC) }

/-- R41: `BXWritePC(address)`. -/
def bxWritePC (address : Word) (s : State) : Res Unit :=
  if bit address 0 then .halt (.notImplemented .thumb)
  else if bit address 1 then .halt (.unpredictable (.rule 41))
  else .done { s with pendingBranch := some address }

/-- R42: `ALUWritePC(address)`. -/
def aluWritePC (address : Word) (s : State) : Res Unit := bxWritePC address s

/-- R42: `LoadWritePC(address)`. -/
def loadWritePC (address : Word) (s : State) : Res Unit := bxWritePC address s

/-! ### Taking an exception -/

/-- R522: the exceptions with an entry. -/
inductive ExcKind where
  | undefined
  | supervisorCall
  | prefetchAbort
  | dataAbort
  | irq
  | fiq
  deriving DecidableEq, Repr

/-- R522: the mode an exception is taken in. -/
def ExcKind.mode : ExcKind → Mode
  | .undefined => .und
  | .supervisorCall => .svc
  | .prefetchAbort => .abt
  | .dataAbort => .abt
  | .irq => .irq
  | .fiq => .fiq

/-- R522: the offset of its vector. -/
def ExcKind.offset : ExcKind → Word
  | .undefined => 0x04
  | .supervisorCall => 0x08
  | .prefetchAbort => 0x0C
  | .dataAbort => 0x10
  | .irq => 0x18
  | .fiq => 0x1C

/-- R522: whether its entry sets CPSR.F. -/
def ExcKind.setsF : ExcKind → Bool
  | .fiq => true
  | _ => false

/-- R522: whether its entry sets CPSR.A. -/
def ExcKind.setsA : ExcKind → Bool
  | .undefined => false
  | .supervisorCall => false
  | _ => true

/-- R521: CPSR after entry: the new mode, I = 1, F and A as R522 says, IT = J = T = 0, E = SCTLR.EE. -/
def entryCpsr (kind : ExcKind) (cpsr sctlr : Word) : Word :=
  merge (0x0700FEBF ||| maskIf kind.setsF 0x00000040 ||| maskIf kind.setsA 0x00000100) cpsr
    (place kind.mode.bits 0 ||| 0x000001C0 ||| placeBit (bit sctlr 25) 9)

/-- R521: the state after entry. -/
def State.enter (s : State) (kind : ExcKind) (lr : Word) : State :=
  let t := s.setRmode kind.mode lrReg lr
  { t with
    spsr := s.spsr.set kind.mode s.cpsr
    cpsr := entryCpsr kind s.cpsr s.cp15.sctlr
    pendingBranch := none
    pc := s.vectorBase + kind.offset }

/-- R521: `TakeException(kind, lr_value)`; with SCTLR.TE = 1 the entry halts (R528). -/
def takeException (kind : ExcKind) (lr : Word) (s : State) : Out :=
  if bit s.cp15.sctlr 30 then .fault (.notImplemented .thumb) else .next (s.enter kind lr)

/-- R78: the word the fault recorder writes into DFSR and IFSR. -/
def faultWord (status : FaultStatus) (isWrite : Bool) : Word :=
  placeBit isWrite 11 ||| placeBit (status.code.getLsbD 4) 10 ||| place (status.code.extractLsb' 0 4) 0

/-- R78: `set_memory_abort(vaddr, status, is_write)`: both register pairs are written (C7). -/
def State.setMemoryAbort (s : State) (va : Word) (status : FaultStatus) (isWrite : Bool) : State :=
  let fsr := faultWord status isWrite
  { s with cp15 := { s.cp15 with dfar := va, dfsr := fsr, ifar := va, ifsr := fsr } }

/-- R530 to R533: the synchronous exceptions, from the state the abandoned instruction leaves. -/
def raise (e : Exc) (s : State) : Out :=
  match e with
  | .undefined => takeException .undefined (s.pc + 4) s
  | .supervisorCall => takeException .supervisorCall (s.pc + 4) s
  | .dataAbort va status isWrite => takeException .dataAbort (s.pc + 8) (s.setMemoryAbort va status isWrite)
  | .prefetchAbort va status => takeException .prefetchAbort (s.pc + 4) (s.setMemoryAbort va status false)

/-! ### Returning from an exception -/

/-- R527: `ExceptionReturn(target)`. -/
def exceptionReturn (target : Word) (s : State) : Res Unit :=
  match s.spsr.get s.mode with
  | none => .halt (.unpredictable .noSPSR)
  | some spsr =>
    if !psrT spsr && slice target 0 2 != 0 then .halt (.unpredictable (.rule 527))
    else (cpsrWriteByInstr spsr 0b1111 true s).andThen fun _ t => .done (t.branchWritePC target)

/-! ### From a body to an outcome -/

/-- R43: the instruction boundary: the deferred PC write is applied, else the PC advances by 4. -/
def State.commit (s : State) : State :=
  { s with pc := s.pendingBranch.getD (s.pc + 4), pendingBranch := none }

/-- R13: an instruction without effect other than advancing the PC by 4. -/
def State.advance (s : State) : State := { s with pc := s.pc + 4, pendingBranch := none }

/-- R14 step 5, R526: how a body's result ends the step. -/
def finish : Res Unit → Out
  | .ok _ s => .next s.commit
  | .exc e s => raise e s
  | .halt f => .fault f

/-- The category of the first case that holds. -/
def firstCase : List (Bool × Unpred) → Option Unpred
  | [] => none
  | (b, c) :: rest => if b then some c else firstCase rest

/-- R13, R161, R190: an instruction with a condition. The UNPREDICTABLE cases of its encoding are decided before the
condition (log entry 8); a failed condition leaves only the PC's advance. `pending_branch` is None at every
boundary (R43); a body starts with it cleared (log entry 19). -/
def runInstr (cond : Cond) (cases : List (Bool × Unpred)) (s : State) (body : State → Res Unit) : Out :=
  match firstCase cases with
  | some c => .fault (.unpredictable c)
  | none =>
    if conditionPassed cond s.cpsr then finish (body { s with pendingBranch := none }) else .next s.advance

/-- R161, R191: an UNDEFINED encoding raises the exception whatever its condition field holds. -/
def runUndefined (s : State) : Out := raise .undefined s

/-- An instruction of the unconditional space: no condition check (R176, preamble of spec/45_system.md). -/
def runAlways (cases : List (Bool × Unpred)) (s : State) (body : State → Res Unit) : Out :=
  runInstr 14 cases s body

/-- R190: a should-be-zero field that does not hold its value. -/
def sbz {n : Nat} (v : BitVec n) : Bool × Unpred := (v != 0, .rule 190)

/-- R190: a should-be-one field that does not hold its value. -/
def sbo {n : Nat} (v : BitVec n) : Bool × Unpred := (v != BitVec.allOnes n, .rule 190)

end Sys2Proof.Machine
end

