-- ==== Sys2Proof/Machine/Mmu.lean ====
section
/-! DEFINITION. Memory accesses by virtual address: alignment (R106, R107), the two-level translation with its
domain, permission and execute checks (R110 to R120), `MemRead` and `MemWrite` (R107), and the instruction
fetch (R121). -/

namespace Sys2Proof.Machine

/-- R10: the access descriptor. -/
structure Access where
  /-- A write access. -/
  write : Bool
  /-- R114: checked as a User access whatever the mode. -/
  unpriv : Bool
  /-- The instruction fetch. -/
  fetch : Bool
  /-- R106: the alignment class, Split or Strict. -/
  split : Bool
  deriving DecidableEq, Repr

/-- R105: the read of the port that an access of `va` makes for a use. -/
def Access.reading (acc : Access) (use : PortUse) (va : Word) : PortRead := { use := use, fetch := acc.fetch, va := va }

/-- R121: the descriptor of the instruction fetch. -/
def fetchAccess : Access := { write := false, unpriv := false, fetch := true, split := false }

/-- R341: a data read. -/
def readAccess (unpriv split : Bool) : Access := { write := false, unpriv := unpriv, fetch := false, split := split }

/-- R341: a data write. -/
def writeAccess (unpriv split : Bool) : Access := { write := true, unpriv := unpriv, fetch := false, split := split }

/-- What a translation ends in: a physical address, an abort (R110 `fault(code)`), or a halt (R113). -/
inductive Xlat where
  | pa (a : Word)
  | abort (e : Exc)
  | halt (f : Fault)
  deriving DecidableEq, Repr

/-- R111, R112: the level whose descriptor ends a walk. -/
inductive Level where
  | sect
  | page
  deriving DecidableEq, Repr

def Level.domainFault : Level → FaultStatus
  | .sect => .domainSection
  | .page => .domainPage

def Level.permissionFault : Level → FaultStatus
  | .sect => .permissionSection
  | .page => .permissionPage

/-- R110: `fault(code)`: a prefetch abort for a fetch, else a data abort. -/
def Access.fault (acc : Access) (va : Word) (status : FaultStatus) : Xlat :=
  .abort (if acc.fetch then .prefetchAbort va status else .dataAbort va status acc.write)

/-- R114: the privilege of an access. -/
def State.accessPrivileged (s : State) (acc : Access) : Bool := s.privileged && !acc.unpriv

/-- The answer of the permission table of R115. -/
inductive Permission where
  | allowed
  | denied
  | reserved
  deriving DecidableEq, Repr

/-- R115: the permission table by AP[2], AP[1:0], the access's privilege and direction. -/
def permission (ap2 : Bool) (ap10 : BitVec 2) (priv write : Bool) : Permission :=
  let grant (b : Bool) : Permission := if b then .allowed else .denied
  match ap2, ap10.toNat with
  | false, 0 => .denied
  | false, 1 => grant priv
  | false, 2 => grant (priv || !write)
  | false, _ => .allowed
  | true, 0 => .reserved
  | true, 1 => grant (priv && !write)
  | true, _ => grant (!write)

/-- R119: `CheckExecute(xn, level)`, then the address. -/
def State.checkExecute (s : State) (va : Word) (acc : Access) (level : Level) (xn : Bool) (pa : Word) : Xlat :=
  if acc.fetch && xn && s.params.enforceXn then acc.fault va level.permissionFault else .pa pa

/-- R116, R115, R117: the domain check, for a client domain the permission check, then the execute check. -/
def State.checkDomain (s : State) (va : Word) (acc : Access) (level : Level) (domain : BitVec 4)
    (ap2 : Bool) (ap10 : BitVec 2) (xn : Bool) (pa : Word) : Xlat :=
  match (s.domainPolicy domain).toNat with
  | 0 => acc.fault va level.domainFault
  | 1 =>
    match permission ap2 ap10 (s.accessPrivileged acc) acc.write with
    | .allowed => s.checkExecute va acc level xn pa
    | .denied => acc.fault va level.permissionFault
    | .reserved => .halt (.unpredictable .apReserved)
  | 2 => .halt (.unpredictable .domainReserved)
  | _ => s.checkExecute va acc level xn pa

/-- R110, R112: the second-level descriptor `d2` of a page whose first-level descriptor is `d1`. -/
def State.walkPage (s : State) (va : Word) (acc : Access) (d1 d2 : Word) : Xlat :=
  match (slice d2 0 2).toNat with
  | 0 => acc.fault va .translationPage
  | 1 => .halt (.notImplemented .largePage)
  | _ =>
    s.checkDomain va acc .page (slice d1 5 4) (bit d2 9) (slice d2 4 2) (bit d2 0)
      (merge 0x00000FFF d2 va)

/-- R110, R111: the first-level descriptor `d1`. -/
def State.walkFirst (s : State) (va : Word) (acc : Access) (d1 : Word) : Xlat :=
  match (slice d1 0 2).toNat with
  | 1 => s.walkPage va acc d1
    (s.physRead (acc.reading .secondLevel va) ((d1 &&& 0xFFFFFC00) ||| place (slice va 12 8) 2) .word)
  | 2 =>
    if bit d1 18 then .halt (.notImplemented .supersection)
    else
      s.checkDomain va acc .sect (slice d1 5 4) (bit d1 15) (slice d1 10 2) (bit d1 4)
        (merge 0x000FFFFF d1 va)
  | _ => acc.fault va .translationSection

/-- R110: whether the walk starts at TTBR0: N = 0, or the top N bits of the address are 0. -/
def State.usesTtbr0 (s : State) (va : Word) : Bool := s.ttbcrN == 0 || va >>> (32 - s.ttbcrN) == 0

/-- R110: the address of the first-level descriptor. -/
def State.firstLevelAddress (s : State) (va : Word) : Word :=
  if s.usesTtbr0 va then s.ttb0Base ||| (((va <<< s.ttbcrN) >>> s.ttbcrN) >>> 20) <<< 2
  else s.ttb1Base ||| (va >>> 20) <<< 2

/-- R110, R113: `Translate(va, acc)`. -/
def State.translate (s : State) (va : Word) (acc : Access) : Xlat :=
  if !s.mmuEnabled then .pa va
  else if bit s.cp15.ttbcr 31 then .halt (.notImplemented .lpae)
  else if bit s.cp15.sctlr 29 then .halt (.notImplemented .accessFlag)
  else if (if s.usesTtbr0 va then bit s.cp15.ttbcr 4 else bit s.cp15.ttbcr 5) then .halt (.notImplemented .walkDisable)
  else s.walkFirst va acc (s.physRead (acc.reading .firstLevel va) (s.firstLevelAddress va) .word)

/-- A translation, then what is done at the physical address. -/
def translateThen {α : Type} (va : Word) (acc : Access) (s : State) (k : Word → Res α) : Res α :=
  match s.translate va acc with
  | .pa a => k a
  | .abort e => .exc e s
  | .halt f => .halt f

/-- R107: a read made as `n` one-byte reads in ascending order, each translated. -/
def readSplit (va : Word) (acc : Access) (s : State) : Nat → Res Word
  | 0 => .ok 0 s
  | n + 1 =>
    translateThen va acc s fun pa =>
      (readSplit (va + 1) acc s n).andThen fun rest t => .ok (s.physRead (acc.reading .bytes va) pa .byte ||| rest <<< 8) t

/-- R107, R108: a write made as `n` one-byte writes in ascending order, each translated; an abort keeps the bytes
already written. -/
def writeSplit (va : Word) (acc : Access) (v : Word) (s : State) : Nat → Res Unit
  | 0 => .done s
  | n + 1 =>
    translateThen va acc s fun pa => writeSplit (va + 1) acc (v >>> 8) (s.physWrite pa .byte v) n

/-- R107: the one translated read of an aligned or passed-through access. -/
def readWhole (va : Word) (w : Width) (acc : Access) (s : State) : Res Word :=
  translateThen va acc s fun pa => .ok (s.physRead (acc.reading .bytes va) pa w) s

/-- R107: the one translated write of an aligned or passed-through access. -/
def writeWhole (va : Word) (w : Width) (v : Word) (acc : Access) (s : State) : Res Unit :=
  translateThen va acc s fun pa => .done (s.physWrite pa w v)

/-- R107: the address is aligned to the width. -/
def alignedTo (va : Word) (w : Width) : Bool := va.toNat % w.bytes == 0

/-- R107: `MemRead(va, n, acc)`. -/
def memRead (va : Word) (w : Width) (acc : Access) (s : State) : Res Word :=
  if !acc.fetch && psrE s.cpsr then .halt (.notImplemented .bigEndian)
  else if alignedTo va w then readWhole va w acc s
  else if acc.split then readSplit va acc s w.bytes
  else if s.checkUnaligned then .exc (.dataAbort va .alignment acc.write) s
  else readWhole va w acc s

/-- R107: `MemWrite(va, n, v, acc)`. -/
def memWrite (va : Word) (w : Width) (v : Word) (acc : Access) (s : State) : Res Unit :=
  if !acc.fetch && psrE s.cpsr then .halt (.notImplemented .bigEndian)
  else if alignedTo va w then writeWhole va w v acc s
  else if acc.split then writeSplit va acc v s w.bytes
  else if s.checkUnaligned then .exc (.dataAbort va .alignment acc.write) s
  else writeWhole va w v acc s

/-- R121: the instruction fetch at the PC. -/
def fetchWord (s : State) : Res Word := memRead s.pc .word fetchAccess s

end Sys2Proof.Machine
end

