-- ==== Sys2Proof/Machine/Operands.lean ====
section
/-! DEFINITION. The operand forms: modified immediates (R185), shifts (R186), the shifter operand of data
processing and its destination write (R222, R223), the addressing of loads and stores (R340, R345), the
register lists of block transfers (R410 to R423), and the shared bodies of these families. -/

namespace Sys2Proof.Machine

/-! ### Immediates and shifts -/

/-- R185: `ARMExpandImm_C(imm12, carry_in)`. -/
def armExpandImmC (imm12 : BitVec 12) (carryIn : Bool) : Word × Bool :=
  let unrotated := zext (imm12.extractLsb' 0 8)
  let rot := 2 * (imm12.extractLsb' 8 4).toNat
  if rot = 0 then (unrotated, carryIn) else (ror unrotated rot, bit (ror unrotated rot) 31)

/-- R186: `DecodeImmShift(type, imm5)`. -/
def decodeImmShift (ty : BitVec 2) (imm5 : BitVec 5) : ShiftType × Nat :=
  match ty.toNat with
  | 0 => (.lsl, imm5.toNat)
  | 1 => (.lsr, if imm5 = 0 then 32 else imm5.toNat)
  | 2 => (.asr, if imm5 = 0 then 32 else imm5.toNat)
  | _ => if imm5 = 0 then (.rrx, 1) else (.ror, imm5.toNat)

/-- R186: `DecodeRegShift(type)`. -/
def decodeRegShift (ty : BitVec 2) : ShiftType :=
  match ty.toNat with
  | 0 => .lsl
  | 1 => .lsr
  | 2 => .asr
  | _ => .ror

/-- R222, immediate form. -/
def operandImm (imm12 : BitVec 12) (s : State) : Word × Bool := armExpandImmC imm12 (psrC s.cpsr)

/-- R222, register form. -/
def operandReg (rm : Reg) (ty : BitVec 2) (imm5 : BitVec 5) (s : State) : Word × Bool :=
  let sh := decodeImmShift ty imm5
  shiftC (s.reg rm) sh.1 sh.2 (psrC s.cpsr)

/-- R222, register-shifted register form: the amount is the low byte of `R[s]`. -/
def operandRsr (rm : Reg) (ty : ShiftType) (rs : Reg) (s : State) : Word × Bool :=
  shiftC (s.reg rm) ty (slice (s.reg rs) 0 8).toNat (psrC s.cpsr)

/-! ### Data processing -/

/-- R223: `WriteDP`, with the four flags an S form writes. -/
def writeDP (rd : Reg) (setflags : Bool) (result : Word) (c v : Bool) (s : State) : Res Unit :=
  if rd = pcReg then
    if setflags then exceptionReturn result s else aluWritePC result s
  else
    let t := s.setReg rd result
    .done (if setflags then { t with cpsr := setNZCV t.cpsr (bit result 31) (result == 0) c v } else t)

/-- The operations of R230 to R237, R242 and R244 on a first operand and a shifter operand. -/
inductive DpOp where
  | and
  | eor
  | sub
  | rsb
  | add
  | adc
  | sbc
  | rsc
  | orr
  | bic
  deriving DecidableEq, Repr

/-- R230 to R237, R242, R244: the result, with carry and overflow for the arithmetic operations; a logical one
passes the shifter's carry `sc` and the old overflow flag `v`. -/
def DpOp.eval (op : DpOp) (x y : Word) (cin sc v : Bool) : AluResult :=
  match op with
  | .and => { value := x &&& y, carry := sc, overflow := v }
  | .eor => { value := x ^^^ y, carry := sc, overflow := v }
  | .sub => addWithCarry x (~~~y) true
  | .rsb => addWithCarry (~~~x) y true
  | .add => addWithCarry x y false
  | .adc => addWithCarry x y cin
  | .sbc => addWithCarry x (~~~y) cin
  | .rsc => addWithCarry (~~~x) y cin
  | .orr => { value := x ||| y, carry := sc, overflow := v }
  | .bic => { value := x &&& ~~~y, carry := sc, overflow := v }

/-- R230 to R244: an operation with a destination; `operand` is the shifter operand and its carry. -/
def dpBody (op : DpOp) (setflags : Bool) (rd rn : Reg) (operand : Word × Bool) (s : State) : Res Unit :=
  let r := op.eval (s.reg rn) operand.1 (psrC s.cpsr) operand.2 (psrV s.cpsr)
  writeDP rd setflags r.value r.carry r.overflow s

/-- R238 to R241: the same operations with no destination: N, Z, C and V only. -/
def testBody (op : DpOp) (rn : Reg) (operand : Word × Bool) (s : State) : Res Unit :=
  let r := op.eval (s.reg rn) operand.1 (psrC s.cpsr) operand.2 (psrV s.cpsr)
  .done { s with cpsr := setNZCV s.cpsr (bit r.value 31) (r.value == 0) r.carry r.overflow }

/-- R243, R245 to R254: a move of the shifter operand; C is the shifter's carry, V is unchanged. -/
def moveBody (setflags : Bool) (rd : Reg) (operand : Word × Bool) (s : State) : Res Unit :=
  writeDP rd setflags operand.1 operand.2 (psrV s.cpsr) s

/-- R245: the shifter operand complemented. -/
def complement (operand : Word × Bool) : Word × Bool := (~~~operand.1, operand.2)

/-- Whether one of the registers is r15. -/
def anyPc (rs : List Reg) : Bool := rs.any (· == pcReg)

/-- R222: r15 among the registers of a register-shifted register form. DESIGN CHOICE (log entry 9): the rule of the
instruction (R230 to R245, R251 to R254) calls it UNPREDICTABLE as well; the number reported is R222's. -/
def rsrPc (rs : List Reg) : Bool × Unpred := (anyPc rs, .rule 222)

/-! ### Load and store addressing -/

/-- R340: the address of the access, the base's new value, and whether it is written back. -/
structure Addressing where
  address : Word
  offsetAddr : Word
  wback : Bool
  deriving DecidableEq, Repr

/-- R340: the addressing of a load or store from P, U, W, the base register and the offset. -/
def addressing (p u w : Bool) (rn : Reg) (off : Word) (s : State) : Addressing :=
  let base := s.reg rn
  let offsetAddr := if u then base + off else base - off
  { address := if p then offsetAddr else base, offsetAddr := offsetAddr, wback := !p || w }

/-- R345: the addressing of the unprivileged forms: always post-indexed, with write-back. -/
def addressingT (u : Bool) (rn : Reg) (off : Word) (s : State) : Addressing := addressing false u true rn off s

/-- R340: write-back, made after every access completed. -/
def State.writeBack (s : State) (ad : Addressing) (rn : Reg) : State :=
  if ad.wback then s.setReg rn ad.offsetAddr else s

/-- R340, R186: the offset of a word or byte register form. -/
def offsetReg (rm : Reg) (ty : BitVec 2) (imm5 : BitVec 5) (s : State) : Word := (operandReg rm ty imm5 s).1

/-- R187: the offset of a halfword, signed or dual immediate form. -/
def offsetSplit (imm4H imm4L : BitVec 4) : Word := place imm4H 4 ||| place imm4L 0

/-- R362, R366: a loaded byte, sign-extended. -/
def sextByte (v : Word) : Word := sext (slice v 0 8)

/-- R363, R367: a loaded halfword, sign-extended. -/
def sextHalf (v : Word) : Word := sext (slice v 0 16)

/-- R341: a load of one register, other than the PC: the access, the write-back, the destination. -/
def loadBody (w : Width) (unpriv split : Bool) (ext : Word → Word) (ad : Addressing) (rn rt : Reg) (s : State) : Res Unit :=
  (memRead ad.address w (readAccess unpriv split) s).andThen fun data t =>
    .done ((t.writeBack ad rn).setReg rt (ext data))

/-- R350, R343: LDR, which alone may load the PC. -/
def loadWordBody (ad : Addressing) (rn rt : Reg) (s : State) : Res Unit :=
  (memRead ad.address .word (readAccess false true) s).andThen fun data t =>
    if rt = pcReg then
      if slice ad.address 0 2 = 0 then loadWritePC data (t.writeBack ad rn) else .halt (.unpredictable (.rule 343))
    else .done ((t.writeBack ad rn).setReg rt data)

/-- R352, R353, R361, R344: a store of one register; r15 reads as PC + 8. -/
def storeBody (w : Width) (unpriv split : Bool) (ad : Addressing) (rn rt : Reg) (s : State) : Res Unit :=
  (memWrite ad.address w (s.reg rt) (writeAccess unpriv split) s).andThen fun _ t => .done (t.writeBack ad rn)

/-- R342: a register that had been loaded before an abort is UNKNOWN: a free value (log entry 20). -/
def State.drawReg (s : State) (m : Mode) (i : Reg) : State :=
  { s.setRmode m i (Config.freeWord s.draws) with draws := s.draws + 1 }

/-- R342: on an abort the base register keeps its value (log entry 16). -/
def keepBase (rn : Reg) (s : State) : Res Unit → Res Unit
  | .exc e t => .exc e (t.setReg rn (s.reg rn))
  | .ok a t => .ok a t
  | .halt f => .halt f

/-- R368: LDRD: two reads, then the write-back and both destinations; an abort of the second read leaves the first
destination UNKNOWN (log entry 17). -/
def loadDualBody (ad : Addressing) (rn rt : Reg) (s : State) : Res Unit :=
  (memRead ad.address .word (readAccess false false) s).andThen fun lo t =>
    match memRead (ad.address + 4) .word (readAccess false false) t with
    | .ok hi u => .done (((u.writeBack ad rn).setReg rt lo).setReg (rt + 1) hi)
    | .exc e u => keepBase rn s (.exc e (u.drawReg u.mode rt))
    | .halt f => .halt f

/-- R369: STRD: two writes, then the write-back. -/
def storeDualBody (ad : Addressing) (rn rt : Reg) (s : State) : Res Unit :=
  (memWrite ad.address .word (s.reg rt) (writeAccess false false) s).andThen fun _ t =>
    (memWrite (ad.address + 4) .word (t.reg (rt + 1)) (writeAccess false false) t).andThen fun _ u =>
      .done (u.writeBack ad rn)

/-- R340: whether the form writes its base back. -/
def wbackOf (p w : Bool) : Bool := !p || w

/-- R340 and the rule of the instruction: the UNPREDICTABLE registers of a load that may not load the PC. -/
def loadCases (rule : Nat) (wback : Bool) (rn rt : Reg) : List (Bool × Unpred) :=
  [(wback && rn == pcReg, .rule 340), (rt == pcReg, .rule rule), (wback && rn == rt, .rule rule)]

/-- R340, R350: the UNPREDICTABLE registers of LDR, which may load the PC. -/
def loadPcCases (rule : Nat) (wback : Bool) (rn rt : Reg) : List (Bool × Unpred) :=
  [(wback && rn == pcReg, .rule 340), (wback && rn == rt, .rule rule)]

/-- R353, R361: the UNPREDICTABLE registers of a store that may not store the PC. -/
def storeCases (rule : Nat) (wback : Bool) (rn rt : Reg) : List (Bool × Unpred) :=
  [(rt == pcReg, .rule rule), (wback && (rn == pcReg || rn == rt), .rule rule)]

/-- R352: the UNPREDICTABLE registers of STR, which may store the PC. -/
def storePcCases (rule : Nat) (wback : Bool) (rn rt : Reg) : List (Bool × Unpred) :=
  [(wback && (rn == pcReg || rn == rt), .rule rule)]

/-- R345 and the rule of the instruction: the UNPREDICTABLE registers of an unprivileged form. -/
def tCases (rule : Nat) (rn rt : Reg) : List (Bool × Unpred) :=
  [(rn == pcReg || rn == rt, .rule 345), (rt == pcReg, .rule rule)]

/-- R345, R344: the UNPREDICTABLE registers of STRT, which may store the PC. -/
def tStoreCases (rn rt : Reg) : List (Bool × Unpred) := [(rn == pcReg || rn == rt, .rule 345)]

/-- R368, R369: the UNPREDICTABLE registers of LDRD and STRD. -/
def dualCases (rule : Nat) (wback : Bool) (rn rt : Reg) : List (Bool × Unpred) :=
  [(rt.getLsbD 0 || rt == lrReg, .rule rule), (wback && (rn == rt || rn == rt + 1 || rn == pcReg), .rule rule)]

/-! ### Block transfers -/

/-- R410: four bytes for each register. -/
def blockBytes (count : Nat) : Word := BitVec.ofNat 32 (4 * count)

/-- R410: the start address of the modes IA (P=0, U=1), IB (1, 1), DA (0, 0) and DB (1, 0). -/
def blockStart (p u : Bool) (base : Word) (count : Nat) : Word :=
  match p, u with
  | false, true => base
  | true, true => base + 4
  | false, false => base - blockBytes count + 4
  | true, false => base - blockBytes count

/-- R410: the written-back value of the base. -/
def blockEnd (u : Bool) (base : Word) (count : Nat) : Word :=
  if u then base + blockBytes count else base - blockBytes count

/-- R410: one word read of a block transfer. -/
def blockRead (a : Word) (s : State) : Res Word := memRead a .word (readAccess false false) s

/-- R411, R422: the load loop over mode `m`'s registers, then `k` at the address after the last; if a later access
aborts, each register loaded before it is UNKNOWN (R342). -/
def loadList (m : Mode) (k : Word → State → Res Unit) : List Reg → Word → State → Res Unit
  | [], a, s => k a s
  | r :: rs, a, s =>
    (blockRead a s).andThen fun v t =>
      match loadList m k rs (a + 4) (t.setRmode m r v) with
      | .exc e u => .exc e (u.drawReg m r)
      | .ok x u => .ok x u
      | .halt f => .halt f

/-- R416, R423: the store loop over mode `m`'s registers; r15 stores PC + 8 (R45). -/
def storeList (m : Mode) : List Reg → Word → State → Res Unit
  | [], _, s => .done s
  | r :: rs, a, s =>
    (memWrite a .word (if r = pcReg then s.pcStoreValue else s.rmode m r) (writeAccess false false) s).andThen
      fun _ t => storeList m rs (a + 4) t

/-- R411: LDM in the addressing mode of P and U. -/
def ldmBody (p u w : Bool) (rn : Reg) (registers : BitVec 16) (s : State) : Res Unit :=
  let base := s.reg rn
  let count := bitCount registers
  let wb (t : State) : State := if w then t.setReg rn (blockEnd u base count) else t
  keepBase rn s <|
    loadList s.mode
      (fun a t =>
        if registers.getLsbD 15 then
          (blockRead a t).andThen fun v t => (loadWritePC v t).andThen fun _ t => .done (wb t)
        else .done (wb t))
      (registerList (registers.setWidth 15)) (blockStart p u base count) s

/-- R416: STM in the addressing mode of P and U. -/
def stmBody (p u w : Bool) (rn : Reg) (registers : BitVec 16) (s : State) : Res Unit :=
  let base := s.reg rn
  let count := bitCount registers
  (storeList s.mode (registerList registers) (blockStart p u base count) s).andThen fun _ t =>
    .done (if w then t.setReg rn (blockEnd u base count) else t)

/-- R410: the base is r15 or the list is empty. DESIGN CHOICE (log entry 9): R422 and R423 call it UNPREDICTABLE as well; the
number reported is R410's. -/
def blockCase {n : Nat} (rn : Reg) (registers : BitVec n) : Bool × Unpred := (rn == pcReg || registers == 0, .rule 410)

/-- R410, R411: the UNPREDICTABLE cases of LDM. -/
def ldmCases (o : BlockOp) : List (Bool × Unpred) :=
  [blockCase o.rn o.registers, (o.w && o.registers.getLsbD o.rn.toNat, .rule 411)]

/-- R410, R416: the UNPREDICTABLE cases of STM. -/
def stmCases (o : BlockOp) : List (Bool × Unpred) :=
  [blockCase o.rn o.registers,
   (o.w && o.registers.getLsbD o.rn.toNat && o.rn.toNat != lowestSetBit o.registers, .stmBaseNotLowest)]

/-- R38: the current mode is User or System, which have no SPSR. -/
def State.usrOrSys (s : State) : Bool := s.mode == .usr || s.mode == .sys

end Sys2Proof.Machine
end

