-- ==== Sys2Proof/Machine/Block.lean ====
section
/-! DEFINITION. Block transfers and branches (R177, R400, R401, R410 to R423; rows 196 to 208 of the opcode table). -/

namespace Sys2Proof.Machine

/-- R421: LDM (exception return): the loads, the write-back, then the exception return to the last word read. Without an
SPSR it halts with R38's NoSPSR (log entry 9). -/
def ldmExcBody (o : LdmExcOp) (s : State) : Res Unit :=
  if s.usrOrSys then .halt (.unpredictable .noSPSR)
  else
    let base := s.reg o.rn
    let count := bitCount o.registers + 1
    keepBase o.rn s <|
      loadList s.mode
        (fun a t => (blockRead a t).andThen fun v u =>
          exceptionReturn v (if o.w then u.setReg o.rn (blockEnd o.u base count) else u))
        (registerList o.registers) (blockStart o.p o.u base count) s

/-- R421: LDM (exception return). -/
def execLdmExcReturn (o : LdmExcOp) (s : State) : Out :=
  runInstr o.cond [(o.rn == pcReg, .rule 410), (o.w && o.registers.getLsbD o.rn.toNat, .rule 421)] s (ldmExcBody o)

/-- R422: LDM (user registers): into the User-mode copies, without write-back. -/
def ldmUserBody (o : LdmUserOp) (s : State) : Res Unit :=
  if s.usrOrSys then .halt (.unpredictable (.rule 422))
  else
    keepBase o.rn s <|
      loadList .usr (fun _ t => .done t) (registerList o.registers)
        (blockStart o.p o.u (s.reg o.rn) (bitCount o.registers)) s

/-- R422: LDM (user registers). -/
def execLdmUser (o : LdmUserOp) (s : State) : Out :=
  runInstr o.cond [sbz o.sbz21, blockCase o.rn o.registers] s (ldmUserBody o)

/-- R423: STM (user registers): from the User-mode copies, without write-back. -/
def stmUserBody (o : StmUserOp) (s : State) : Res Unit :=
  if s.usrOrSys then .halt (.unpredictable (.rule 423))
  else
    storeList .usr (registerList o.registers) (blockStart o.p o.u (s.reg o.rn) (bitCount o.registers)) s

/-- R423: STM (user registers). -/
def execStmUser (o : StmUserOp) (s : State) : Out :=
  runInstr o.cond [sbz o.sbz21, blockCase o.rn o.registers] s (stmUserBody o)

/-- R417, R416: STMDA. -/
def execStmda (o : BlockOp) (s : State) : Out :=
  runInstr o.cond (stmCases o) s (stmBody false false o.w o.rn o.registers)

/-- R412, R411: LDMDA. -/
def execLdmda (o : BlockOp) (s : State) : Out :=
  runInstr o.cond (ldmCases o) s (ldmBody false false o.w o.rn o.registers)

/-- R418, R416: STM. -/
def execStm (o : BlockOp) (s : State) : Out :=
  runInstr o.cond (stmCases o) s (stmBody false true o.w o.rn o.registers)

/-- R413, R411: LDM. -/
def execLdm (o : BlockOp) (s : State) : Out :=
  runInstr o.cond (ldmCases o) s (ldmBody false true o.w o.rn o.registers)

/-- R419, R416: STMDB. -/
def execStmdb (o : BlockOp) (s : State) : Out :=
  runInstr o.cond (stmCases o) s (stmBody true false o.w o.rn o.registers)

/-- R414, R411: LDMDB. -/
def execLdmdb (o : BlockOp) (s : State) : Out :=
  runInstr o.cond (ldmCases o) s (ldmBody true false o.w o.rn o.registers)

/-- R420, R416: STMIB. -/
def execStmib (o : BlockOp) (s : State) : Out :=
  runInstr o.cond (stmCases o) s (stmBody true true o.w o.rn o.registers)

/-- R415, R411: LDMIB. -/
def execLdmib (o : BlockOp) (s : State) : Out :=
  runInstr o.cond (ldmCases o) s (ldmBody true true o.w o.rn o.registers)

/-- R187: `sext_32(imm24:'00')`. -/
def branchOffset (imm24 : BitVec 24) : Word := sext (imm24 ++ (0 : BitVec 2))

/-- R400: B. -/
def execB (o : BranchOp) (s : State) : Out :=
  runInstr o.cond [] s fun s => .done (s.branchWritePC (s.reg pcReg + branchOffset o.imm24))

/-- R401: BL. -/
def execBl (o : BranchOp) (s : State) : Out :=
  runInstr o.cond [] s fun s =>
    .done ((s.setReg lrReg (s.pc + 4)).branchWritePC (s.reg pcReg + branchOffset o.imm24))

end Sys2Proof.Machine
end

