-- ==== Sys2Proof/Machine/Cp15.lean ====
section
/-! DEFINITION. The CP15 system-control registers (R60 to R76): the map with its access classes, what a read
answers, what a write stores, and the checks of MCR and MRC. -/

namespace Sys2Proof.Machine

/-- R61: the maintenance operations of class WO1. -/
inductive MaintenanceOp where
  | iciAllUIs
  | bpiAllIs
  | iciAllU
  | icimvaU
  | bpiAll
  | bpimva
  | dcimvac
  | dcisw
  | dccmvac
  | dccsw
  | dccmvau
  | dccimvac
  | dccisw
  | tlbiAllIs
  | tlbimvaIs
  | tlbiAsidIs
  | tlbimvaaIs
  | itlbiAll
  | itlbimva
  | itlbiAsid
  | dtlbiAll
  | dtlbimva
  | dtlbiAsid
  | tlbiAll
  | tlbimva
  | tlbiAsid
  | tlbimvaa
  deriving DecidableEq, Repr

/-- R61, R76: the barrier operations of class WO0: CP15ISB, CP15DSB and CP15DMB. -/
inductive BarrierReg where
  | isb
  | dsb
  | dmb
  deriving DecidableEq, Repr

/-- R61: the registers and operations of the map. -/
inductive Cp15Name where
  | midr
  | ctr
  | tcmtr
  | tlbtr
  | mpidr
  | idPfr0
  | idPfr1
  | idDfr0
  | idAfr0
  | idMmfr0
  | idMmfr1
  | idMmfr2
  | idMmfr3
  | idIsar0
  | idIsar1
  | idIsar2
  | idIsar3
  | idIsar4
  | idIsar5
  | ccsidr
  | clidr
  | csselr
  | sctlr
  | actlr
  | cpacr
  | ttbr0
  | ttbr1
  | ttbcr
  | dacr
  | dfsr
  | ifsr
  | dfar
  | ifar
  | prrr
  | nmrr
  | contextidr
  | tpidrurw
  | tpidruro
  | tpidrprw
  | maintenance (op : MaintenanceOp)
  | barrier (b : BarrierReg)
  deriving DecidableEq, Repr

/-- R61: the access classes. -/
inductive AccessClass where
  | rw1
  | ro1
  | wo1
  | rw0
  | ro0w1
  | wo0
  deriving DecidableEq, Repr

/-- R490, R491: whether a class admits a direction at all. -/
def AccessClass.admits : AccessClass → Direction → Bool
  | .ro1, .write => false
  | .wo1, .read => false
  | .wo0, .read => false
  | _, _ => true

/-- R490, R491: whether a class admits a direction from User mode. -/
def AccessClass.admitsUser : AccessClass → Direction → Bool
  | .rw0, _ => true
  | .ro0w1, .read => true
  | .wo0, .write => true
  | _, _ => false

/-- A row of the map. -/
structure Cp15Row where
  crn : BitVec 4
  opc1 : BitVec 3
  crm : BitVec 4
  opc2 : BitVec 3
  name : Cp15Name
  access : AccessClass
  deriving DecidableEq, Repr

/-- R61: the map, part 1. -/
def cp15Rows0 : List Cp15Row := [
  ⟨0, 0, 0, 0, .midr, .ro1⟩,
  ⟨0, 0, 0, 1, .ctr, .ro1⟩,
  ⟨0, 0, 0, 2, .tcmtr, .ro1⟩,
  ⟨0, 0, 0, 3, .tlbtr, .ro1⟩,
  ⟨0, 0, 0, 5, .mpidr, .ro1⟩,
  ⟨0, 0, 1, 0, .idPfr0, .ro1⟩,
  ⟨0, 0, 1, 1, .idPfr1, .ro1⟩,
  ⟨0, 0, 1, 2, .idDfr0, .ro1⟩,
  ⟨0, 0, 1, 3, .idAfr0, .ro1⟩,
  ⟨0, 0, 1, 4, .idMmfr0, .ro1⟩,
  ⟨0, 0, 1, 5, .idMmfr1, .ro1⟩,
  ⟨0, 0, 1, 6, .idMmfr2, .ro1⟩,
  ⟨0, 0, 1, 7, .idMmfr3, .ro1⟩,
  ⟨0, 0, 2, 0, .idIsar0, .ro1⟩,
  ⟨0, 0, 2, 1, .idIsar1, .ro1⟩,
  ⟨0, 0, 2, 2, .idIsar2, .ro1⟩,
  ⟨0, 0, 2, 3, .idIsar3, .ro1⟩,
  ⟨0, 0, 2, 4, .idIsar4, .ro1⟩,
  ⟨0, 0, 2, 5, .idIsar5, .ro1⟩,
  ⟨0, 1, 0, 0, .ccsidr, .ro1⟩,
  ⟨0, 1, 0, 1, .clidr, .ro1⟩,
  ⟨0, 2, 0, 0, .csselr, .rw1⟩]

/-- R61: the map, part 2. -/
def cp15Rows1 : List Cp15Row := [
  ⟨1, 0, 0, 0, .sctlr, .rw1⟩,
  ⟨1, 0, 0, 1, .actlr, .rw1⟩,
  ⟨1, 0, 0, 2, .cpacr, .rw1⟩,
  ⟨2, 0, 0, 0, .ttbr0, .rw1⟩,
  ⟨2, 0, 0, 1, .ttbr1, .rw1⟩,
  ⟨2, 0, 0, 2, .ttbcr, .rw1⟩,
  ⟨3, 0, 0, 0, .dacr, .rw1⟩,
  ⟨5, 0, 0, 0, .dfsr, .rw1⟩,
  ⟨5, 0, 0, 1, .ifsr, .rw1⟩,
  ⟨6, 0, 0, 0, .dfar, .rw1⟩,
  ⟨6, 0, 0, 2, .ifar, .rw1⟩,
  ⟨7, 0, 1, 0, .maintenance .iciAllUIs, .wo1⟩,
  ⟨7, 0, 1, 6, .maintenance .bpiAllIs, .wo1⟩,
  ⟨7, 0, 5, 0, .maintenance .iciAllU, .wo1⟩,
  ⟨7, 0, 5, 1, .maintenance .icimvaU, .wo1⟩,
  ⟨7, 0, 5, 4, .barrier .isb, .wo0⟩,
  ⟨7, 0, 5, 6, .maintenance .bpiAll, .wo1⟩,
  ⟨7, 0, 5, 7, .maintenance .bpimva, .wo1⟩,
  ⟨7, 0, 6, 1, .maintenance .dcimvac, .wo1⟩,
  ⟨7, 0, 6, 2, .maintenance .dcisw, .wo1⟩,
  ⟨7, 0, 10, 1, .maintenance .dccmvac, .wo1⟩,
  ⟨7, 0, 10, 2, .maintenance .dccsw, .wo1⟩]

/-- R61: the map, part 3. -/
def cp15Rows2 : List Cp15Row := [
  ⟨7, 0, 10, 4, .barrier .dsb, .wo0⟩,
  ⟨7, 0, 10, 5, .barrier .dmb, .wo0⟩,
  ⟨7, 0, 11, 1, .maintenance .dccmvau, .wo1⟩,
  ⟨7, 0, 14, 1, .maintenance .dccimvac, .wo1⟩,
  ⟨7, 0, 14, 2, .maintenance .dccisw, .wo1⟩,
  ⟨8, 0, 3, 0, .maintenance .tlbiAllIs, .wo1⟩,
  ⟨8, 0, 3, 1, .maintenance .tlbimvaIs, .wo1⟩,
  ⟨8, 0, 3, 2, .maintenance .tlbiAsidIs, .wo1⟩,
  ⟨8, 0, 3, 3, .maintenance .tlbimvaaIs, .wo1⟩,
  ⟨8, 0, 5, 0, .maintenance .itlbiAll, .wo1⟩,
  ⟨8, 0, 5, 1, .maintenance .itlbimva, .wo1⟩,
  ⟨8, 0, 5, 2, .maintenance .itlbiAsid, .wo1⟩,
  ⟨8, 0, 6, 0, .maintenance .dtlbiAll, .wo1⟩,
  ⟨8, 0, 6, 1, .maintenance .dtlbimva, .wo1⟩,
  ⟨8, 0, 6, 2, .maintenance .dtlbiAsid, .wo1⟩,
  ⟨8, 0, 7, 0, .maintenance .tlbiAll, .wo1⟩,
  ⟨8, 0, 7, 1, .maintenance .tlbimva, .wo1⟩,
  ⟨8, 0, 7, 2, .maintenance .tlbiAsid, .wo1⟩,
  ⟨8, 0, 7, 3, .maintenance .tlbimvaa, .wo1⟩,
  ⟨10, 0, 2, 0, .prrr, .rw1⟩,
  ⟨10, 0, 2, 1, .nmrr, .rw1⟩,
  ⟨13, 0, 0, 1, .contextidr, .rw1⟩]

/-- R61: the map, part 4. -/
def cp15Rows3 : List Cp15Row := [
  ⟨13, 0, 0, 2, .tpidrurw, .rw0⟩,
  ⟨13, 0, 0, 3, .tpidruro, .ro0w1⟩,
  ⟨13, 0, 0, 4, .tpidrprw, .rw1⟩]

/-- R61: the CP15 register map. -/
def cp15Map : List Cp15Row := cp15Rows0 ++ cp15Rows1 ++ cp15Rows2 ++ cp15Rows3

/-- R60: the key of a row. -/
def Cp15Row.key (r : Cp15Row) : Cp15Key := { crn := r.crn, opc1 := r.opc1, crm := r.crm, opc2 := r.opc2 }

/-- R60: the row of a key, none for an unknown key. -/
def cp15Lookup (k : Cp15Key) : Option Cp15Row := cp15Map.find? fun r => r.key == k

/-- R62: `SCTLR_WMASK`. -/
def sctlrWriteMask : Word := 0x73207C27

/-- R62: `SCTLR_RAO`. -/
def sctlrOnes : Word := 0x00C50058

/-- R63: the value an MCR stores in SCTLR. -/
def sctlrStored (cfgnmfi : Bool) (v : Word) : Word := (v &&& sctlrWriteMask) ||| sctlrOnes ||| placeBit cfgnmfi 27

/-- R66: the writable bits of TTBCR. -/
def ttbcrMask : Word := 0x80000037

/-- R61, R74: the value an MRC reads. The operations have none; the access check never lets a read reach them. -/
def State.cp15Read (s : State) : Cp15Name → Word
  | .midr => s.params.ids.midr
  | .ctr => s.params.ids.ctr
  | .tcmtr => 0
  | .tlbtr => 0
  | .mpidr => s.params.ids.mpidr
  | .idPfr0 => s.params.ids.idPfr0
  | .idPfr1 => s.params.ids.idPfr1
  | .idDfr0 => s.params.ids.idDfr0
  | .idAfr0 => s.params.ids.idAfr0
  | .idMmfr0 => s.params.ids.idMmfr0
  | .idMmfr1 => s.params.ids.idMmfr1
  | .idMmfr2 => s.params.ids.idMmfr2
  | .idMmfr3 => s.params.ids.idMmfr3
  | .idIsar0 => s.params.ids.idIsar0
  | .idIsar1 => s.params.ids.idIsar1
  | .idIsar2 => s.params.ids.idIsar2
  | .idIsar3 => s.params.ids.idIsar3
  | .idIsar4 => s.params.ids.idIsar4
  | .idIsar5 => s.params.ids.idIsar5
  | .ccsidr => s.params.ids.ccsidr.get s.cp15.csselr.toFin
  | .clidr => s.params.ids.clidr
  | .csselr => zext s.cp15.csselr
  | .cpacr => 0
  | .sctlr => s.cp15.sctlr
  | .actlr => s.cp15.actlr
  | .ttbr0 => s.cp15.ttbr0
  | .ttbr1 => s.cp15.ttbr1
  | .ttbcr => s.cp15.ttbcr
  | .dacr => s.cp15.dacr
  | .dfsr => s.cp15.dfsr
  | .ifsr => s.cp15.ifsr
  | .dfar => s.cp15.dfar
  | .ifar => s.cp15.ifar
  | .prrr => s.cp15.prrr
  | .nmrr => s.cp15.nmrr
  | .contextidr => s.cp15.contextidr
  | .tpidrurw => s.cp15.tpidrurw
  | .tpidruro => s.cp15.tpidruro
  | .tpidrprw => s.cp15.tpidrprw
  | .maintenance _ => 0
  | .barrier _ => 0

/-- R61, R63, R66, R72, R76: the CP15 registers after the write effect of an MCR. Read-only registers and the
operations change nothing. -/
def Cp15.written (c : Cp15) (cfgnmfi : Bool) (n : Cp15Name) (v : Word) : Cp15 :=
  match n with
  | .csselr => { c with csselr := slice v 0 4 }
  | .sctlr => { c with sctlr := sctlrStored cfgnmfi v }
  | .ttbcr => { c with ttbcr := v &&& ttbcrMask }
  | .actlr => { c with actlr := v }
  | .ttbr0 => { c with ttbr0 := v }
  | .ttbr1 => { c with ttbr1 := v }
  | .dacr => { c with dacr := v }
  | .dfsr => { c with dfsr := v }
  | .ifsr => { c with ifsr := v }
  | .dfar => { c with dfar := v }
  | .ifar => { c with ifar := v }
  | .prrr => { c with prrr := v }
  | .nmrr => { c with nmrr := v }
  | .contextidr => { c with contextidr := v }
  | .tpidrurw => { c with tpidrurw := v }
  | .tpidruro => { c with tpidruro := v }
  | .tpidrprw => { c with tpidrprw := v }
  | .midr | .ctr | .tcmtr | .tlbtr | .mpidr | .idPfr0
  | .idPfr1 | .idDfr0 | .idAfr0 | .idMmfr0 | .idMmfr1 | .idMmfr2
  | .idMmfr3 | .idIsar0 | .idIsar1 | .idIsar2 | .idIsar3 | .idIsar4
  | .idIsar5 | .ccsidr | .clidr | .cpacr => c
  | .maintenance _ | .barrier _ => c

/-- R76: an MCR to a barrier operation with SCTLR.CP15BEN = 0 (log entry 11). -/
def State.barrierDisabled (s : State) (n : Cp15Name) : Bool :=
  match n with
  | .barrier _ => !bit s.cp15.sctlr 5
  | _ => false

/-- R490: an MCR to a key with the value `v`. -/
def cp15WriteBody (k : Cp15Key) (v : Word) (s : State) : Res Unit :=
  match cp15Lookup k with
  | none => .halt (.cp15Unsupported k .write)
  | some r =>
    if !r.access.admits .write then .halt (.cp15Unsupported k .write)
    else if (!s.privileged && !r.access.admitsUser .write) || s.barrierDisabled r.name then .exc .undefined s
    else .done { s with cp15 := s.cp15.written s.params.cfgnmfi r.name v }

/-- R491: the value of an MRC from a key. -/
def cp15ReadBody (k : Cp15Key) (s : State) : Res Word :=
  match cp15Lookup k with
  | none => .halt (.cp15Unsupported k .read)
  | some r =>
    if !r.access.admits .read then .halt (.cp15Unsupported k .read)
    else if !s.privileged && !r.access.admitsUser .read then .exc .undefined s
    else .ok (s.cp15Read r.name) s

/-- R490, R491: the key of an MCR or MRC. -/
def cp15Key (o : Cp15Op) : Cp15Key := { crn := o.crn, opc1 := o.opc1, crm := o.crm, opc2 := o.opc2 }

end Sys2Proof.Machine
end

