-- ==== Sys2Proof/Machine/Coprocessor.lean ====
section
/-! DEFINITION. The coprocessor space and SVC (R178, R490 to R500; rows 209 to 219 of the opcode table). -/

namespace Sys2Proof.Machine

/-- R178, R191: the coprocessor words 00000x. -/
def execUndefCoproc00000 (_w : Word) (s : State) : Out := runUndefined s

/-- R500: SVC. -/
def execSvc (o : BranchOp) (s : State) : Out :=
  runInstr o.cond [] s fun s => .exc .supervisorCall s

/-- R193, R178: coprocessors 10 and 11, load, store and two-register transfer forms. -/
def execVfpLoadStore (_w : Word) (_s : State) : Out := .fault .simdOrVfp

/-- R193, R178: coprocessors 10 and 11, data and register transfer forms. -/
def execVfpData (_w : Word) (_s : State) : Out := .fault .simdOrVfp

/-- R490: MCR p15. -/
def execMcrP15 (o : Cp15Op) (s : State) : Out :=
  runInstr o.cond [(o.rt == pcReg, .rule 490)] s fun s => cp15WriteBody (cp15Key o) (s.reg o.rt) s

/-- R491: the destination of an MRC: a register, or with t = 15 the flags N, Z, C and V. -/
def mrcWrite (rt : Reg) (v : Word) (s : State) : State :=
  if rt = pcReg then { s with cpsr := putSlice s.cpsr 28 (slice v 28 4) } else s.setReg rt v

/-- R491: MRC p15. -/
def execMrcP15 (o : Cp15Op) (s : State) : Out :=
  runInstr o.cond [] s fun s => (cp15ReadBody (cp15Key o) s).andThen fun v t => .done (mrcWrite o.rt v t)

/-- R496: MCRR, MRRC to an absent coprocessor. -/
def execMcrr (o : McrrOp) (s : State) : Out :=
  runInstr o.cond [] s fun s => .exc .undefined s

/-- R496: STC, LDC to an absent coprocessor. -/
def execStc (o : StcOp) (s : State) : Out :=
  runInstr o.cond [] s fun s => .exc .undefined s

/-- R496: CDP to an absent coprocessor. -/
def execCdp (o : CdpOp) (s : State) : Out :=
  runInstr o.cond [] s fun s => .exc .undefined s

/-- R496: MCR, MRC to an absent coprocessor. -/
def execMcrOther (o : McrOtherOp) (s : State) : Out :=
  runInstr o.cond [] s fun s => .exc .undefined s

/-- R161, R191: every other word. -/
def execUndefAnyOther (_w : Word) (s : State) : Out := runUndefined s

end Sys2Proof.Machine
end

