-- ==== Sys2Proof/Machine/DataProcessing.lean ====
section
/-! DEFINITION. Data processing (R164 to R166, R222 to R254; rows 94 to 149 of the opcode table). -/

namespace Sys2Proof.Machine

/-- R230: AND, immediate. -/
def execAndImm (o : DpImm) (s : State) : Out :=
  runInstr o.cond [] s fun s => dpBody .and o.s o.rd o.rn (operandImm o.imm12 s) s

/-- R230: AND, register. -/
def execAndReg (o : DpReg) (s : State) : Out :=
  runInstr o.cond [] s fun s => dpBody .and o.s o.rd o.rn (operandReg o.rm o.type o.imm5 s) s

/-- R230, R222: AND, register-shifted register. -/
def execAndRsr (o : DpRsr) (s : State) : Out :=
  runInstr o.cond [rsrPc [o.rd, o.rn, o.rm, o.rs]] s fun s =>
    dpBody .and o.s o.rd o.rn (operandRsr o.rm (decodeRegShift o.type) o.rs s) s

/-- R231: EOR, immediate. -/
def execEorImm (o : DpImm) (s : State) : Out :=
  runInstr o.cond [] s fun s => dpBody .eor o.s o.rd o.rn (operandImm o.imm12 s) s

/-- R231: EOR, register. -/
def execEorReg (o : DpReg) (s : State) : Out :=
  runInstr o.cond [] s fun s => dpBody .eor o.s o.rd o.rn (operandReg o.rm o.type o.imm5 s) s

/-- R231, R222: EOR, register-shifted register. -/
def execEorRsr (o : DpRsr) (s : State) : Out :=
  runInstr o.cond [rsrPc [o.rd, o.rn, o.rm, o.rs]] s fun s =>
    dpBody .eor o.s o.rd o.rn (operandRsr o.rm (decodeRegShift o.type) o.rs s) s

/-- R232: SUB, immediate. -/
def execSubImm (o : DpImm) (s : State) : Out :=
  runInstr o.cond [] s fun s => dpBody .sub o.s o.rd o.rn (operandImm o.imm12 s) s

/-- R232: SUB, register. -/
def execSubReg (o : DpReg) (s : State) : Out :=
  runInstr o.cond [] s fun s => dpBody .sub o.s o.rd o.rn (operandReg o.rm o.type o.imm5 s) s

/-- R232, R222: SUB, register-shifted register. -/
def execSubRsr (o : DpRsr) (s : State) : Out :=
  runInstr o.cond [rsrPc [o.rd, o.rn, o.rm, o.rs]] s fun s =>
    dpBody .sub o.s o.rd o.rn (operandRsr o.rm (decodeRegShift o.type) o.rs s) s

/-- R233: RSB, immediate. -/
def execRsbImm (o : DpImm) (s : State) : Out :=
  runInstr o.cond [] s fun s => dpBody .rsb o.s o.rd o.rn (operandImm o.imm12 s) s

/-- R233: RSB, register. -/
def execRsbReg (o : DpReg) (s : State) : Out :=
  runInstr o.cond [] s fun s => dpBody .rsb o.s o.rd o.rn (operandReg o.rm o.type o.imm5 s) s

/-- R233, R222: RSB, register-shifted register. -/
def execRsbRsr (o : DpRsr) (s : State) : Out :=
  runInstr o.cond [rsrPc [o.rd, o.rn, o.rm, o.rs]] s fun s =>
    dpBody .rsb o.s o.rd o.rn (operandRsr o.rm (decodeRegShift o.type) o.rs s) s

/-- R234: ADD, immediate. -/
def execAddImm (o : DpImm) (s : State) : Out :=
  runInstr o.cond [] s fun s => dpBody .add o.s o.rd o.rn (operandImm o.imm12 s) s

/-- R234: ADD, register. -/
def execAddReg (o : DpReg) (s : State) : Out :=
  runInstr o.cond [] s fun s => dpBody .add o.s o.rd o.rn (operandReg o.rm o.type o.imm5 s) s

/-- R234, R222: ADD, register-shifted register. -/
def execAddRsr (o : DpRsr) (s : State) : Out :=
  runInstr o.cond [rsrPc [o.rd, o.rn, o.rm, o.rs]] s fun s =>
    dpBody .add o.s o.rd o.rn (operandRsr o.rm (decodeRegShift o.type) o.rs s) s

/-- R235: ADC, immediate. -/
def execAdcImm (o : DpImm) (s : State) : Out :=
  runInstr o.cond [] s fun s => dpBody .adc o.s o.rd o.rn (operandImm o.imm12 s) s

/-- R235: ADC, register. -/
def execAdcReg (o : DpReg) (s : State) : Out :=
  runInstr o.cond [] s fun s => dpBody .adc o.s o.rd o.rn (operandReg o.rm o.type o.imm5 s) s

/-- R235, R222: ADC, register-shifted register. -/
def execAdcRsr (o : DpRsr) (s : State) : Out :=
  runInstr o.cond [rsrPc [o.rd, o.rn, o.rm, o.rs]] s fun s =>
    dpBody .adc o.s o.rd o.rn (operandRsr o.rm (decodeRegShift o.type) o.rs s) s

/-- R236: SBC, immediate. -/
def execSbcImm (o : DpImm) (s : State) : Out :=
  runInstr o.cond [] s fun s => dpBody .sbc o.s o.rd o.rn (operandImm o.imm12 s) s

/-- R236: SBC, register. -/
def execSbcReg (o : DpReg) (s : State) : Out :=
  runInstr o.cond [] s fun s => dpBody .sbc o.s o.rd o.rn (operandReg o.rm o.type o.imm5 s) s

/-- R236, R222: SBC, register-shifted register. -/
def execSbcRsr (o : DpRsr) (s : State) : Out :=
  runInstr o.cond [rsrPc [o.rd, o.rn, o.rm, o.rs]] s fun s =>
    dpBody .sbc o.s o.rd o.rn (operandRsr o.rm (decodeRegShift o.type) o.rs s) s

/-- R237: RSC, immediate. -/
def execRscImm (o : DpImm) (s : State) : Out :=
  runInstr o.cond [] s fun s => dpBody .rsc o.s o.rd o.rn (operandImm o.imm12 s) s

/-- R237: RSC, register. -/
def execRscReg (o : DpReg) (s : State) : Out :=
  runInstr o.cond [] s fun s => dpBody .rsc o.s o.rd o.rn (operandReg o.rm o.type o.imm5 s) s

/-- R237, R222: RSC, register-shifted register. -/
def execRscRsr (o : DpRsr) (s : State) : Out :=
  runInstr o.cond [rsrPc [o.rd, o.rn, o.rm, o.rs]] s fun s =>
    dpBody .rsc o.s o.rd o.rn (operandRsr o.rm (decodeRegShift o.type) o.rs s) s

/-- R238: TST, immediate. -/
def execTstImm (o : CmpImm) (s : State) : Out :=
  runInstr o.cond [sbz o.sbz15_12] s fun s => testBody .and o.rn (operandImm o.imm12 s) s

/-- R238: TST, register. -/
def execTstReg (o : CmpReg) (s : State) : Out :=
  runInstr o.cond [sbz o.sbz15_12] s fun s => testBody .and o.rn (operandReg o.rm o.type o.imm5 s) s

/-- R238, R222: TST, register-shifted register. -/
def execTstRsr (o : CmpRsr) (s : State) : Out :=
  runInstr o.cond [sbz o.sbz15_12, rsrPc [o.rn, o.rm, o.rs]] s fun s =>
    testBody .and o.rn (operandRsr o.rm (decodeRegShift o.type) o.rs s) s

/-- R239: TEQ, immediate. -/
def execTeqImm (o : CmpImm) (s : State) : Out :=
  runInstr o.cond [sbz o.sbz15_12] s fun s => testBody .eor o.rn (operandImm o.imm12 s) s

/-- R239: TEQ, register. -/
def execTeqReg (o : CmpReg) (s : State) : Out :=
  runInstr o.cond [sbz o.sbz15_12] s fun s => testBody .eor o.rn (operandReg o.rm o.type o.imm5 s) s

/-- R239, R222: TEQ, register-shifted register. -/
def execTeqRsr (o : CmpRsr) (s : State) : Out :=
  runInstr o.cond [sbz o.sbz15_12, rsrPc [o.rn, o.rm, o.rs]] s fun s =>
    testBody .eor o.rn (operandRsr o.rm (decodeRegShift o.type) o.rs s) s

/-- R240: CMP, immediate. -/
def execCmpImm (o : CmpImm) (s : State) : Out :=
  runInstr o.cond [sbz o.sbz15_12] s fun s => testBody .sub o.rn (operandImm o.imm12 s) s

/-- R240: CMP, register. -/
def execCmpReg (o : CmpReg) (s : State) : Out :=
  runInstr o.cond [sbz o.sbz15_12] s fun s => testBody .sub o.rn (operandReg o.rm o.type o.imm5 s) s

/-- R240, R222: CMP, register-shifted register. -/
def execCmpRsr (o : CmpRsr) (s : State) : Out :=
  runInstr o.cond [sbz o.sbz15_12, rsrPc [o.rn, o.rm, o.rs]] s fun s =>
    testBody .sub o.rn (operandRsr o.rm (decodeRegShift o.type) o.rs s) s

/-- R241: CMN, immediate. -/
def execCmnImm (o : CmpImm) (s : State) : Out :=
  runInstr o.cond [sbz o.sbz15_12] s fun s => testBody .add o.rn (operandImm o.imm12 s) s

/-- R241: CMN, register. -/
def execCmnReg (o : CmpReg) (s : State) : Out :=
  runInstr o.cond [sbz o.sbz15_12] s fun s => testBody .add o.rn (operandReg o.rm o.type o.imm5 s) s

/-- R241, R222: CMN, register-shifted register. -/
def execCmnRsr (o : CmpRsr) (s : State) : Out :=
  runInstr o.cond [sbz o.sbz15_12, rsrPc [o.rn, o.rm, o.rs]] s fun s =>
    testBody .add o.rn (operandRsr o.rm (decodeRegShift o.type) o.rs s) s

/-- R242: ORR, immediate. -/
def execOrrImm (o : DpImm) (s : State) : Out :=
  runInstr o.cond [] s fun s => dpBody .orr o.s o.rd o.rn (operandImm o.imm12 s) s

/-- R242: ORR, register. -/
def execOrrReg (o : DpReg) (s : State) : Out :=
  runInstr o.cond [] s fun s => dpBody .orr o.s o.rd o.rn (operandReg o.rm o.type o.imm5 s) s

/-- R242, R222: ORR, register-shifted register. -/
def execOrrRsr (o : DpRsr) (s : State) : Out :=
  runInstr o.cond [rsrPc [o.rd, o.rn, o.rm, o.rs]] s fun s =>
    dpBody .orr o.s o.rd o.rn (operandRsr o.rm (decodeRegShift o.type) o.rs s) s

/-- R243: MOV, immediate. -/
def execMovImm (o : MovImm) (s : State) : Out :=
  runInstr o.cond [sbz o.sbz19_16] s fun s => moveBody o.s o.rd (operandImm o.imm12 s) s

/-- R243: MOV, register. -/
def execMovReg (o : MovReg) (s : State) : Out :=
  runInstr o.cond [sbz o.sbz19_16] s fun s => moveBody o.s o.rd (operandReg o.rm 0 0 s) s

/-- R250: RRX. -/
def execRrx (o : MovReg) (s : State) : Out :=
  runInstr o.cond [sbz o.sbz19_16] s fun s => moveBody o.s o.rd (operandReg o.rm 3 0 s) s

/-- R246: LSL, immediate. -/
def execLslImm (o : ShiftImm) (s : State) : Out :=
  runInstr o.cond [sbz o.sbz19_16] s fun s => moveBody o.s o.rd (operandReg o.rm 0 o.imm5 s) s

/-- R247: LSR, immediate. -/
def execLsrImm (o : ShiftImm) (s : State) : Out :=
  runInstr o.cond [sbz o.sbz19_16] s fun s => moveBody o.s o.rd (operandReg o.rm 1 o.imm5 s) s

/-- R248: ASR, immediate. -/
def execAsrImm (o : ShiftImm) (s : State) : Out :=
  runInstr o.cond [sbz o.sbz19_16] s fun s => moveBody o.s o.rd (operandReg o.rm 2 o.imm5 s) s

/-- R249: ROR, immediate. -/
def execRorImm (o : ShiftImm) (s : State) : Out :=
  runInstr o.cond [sbz o.sbz19_16] s fun s => moveBody o.s o.rd (operandReg o.rm 3 o.imm5 s) s

/-- R251, R222: LSL, register. -/
def execLslReg (o : ShiftReg) (s : State) : Out :=
  runInstr o.cond [sbz o.sbz19_16, rsrPc [o.rd, o.rm, o.rs]] s fun s =>
    moveBody o.s o.rd (operandRsr o.rm .lsl o.rs s) s

/-- R252, R222: LSR, register. -/
def execLsrReg (o : ShiftReg) (s : State) : Out :=
  runInstr o.cond [sbz o.sbz19_16, rsrPc [o.rd, o.rm, o.rs]] s fun s =>
    moveBody o.s o.rd (operandRsr o.rm .lsr o.rs s) s

/-- R253, R222: ASR, register. -/
def execAsrReg (o : ShiftReg) (s : State) : Out :=
  runInstr o.cond [sbz o.sbz19_16, rsrPc [o.rd, o.rm, o.rs]] s fun s =>
    moveBody o.s o.rd (operandRsr o.rm .asr o.rs s) s

/-- R254, R222: ROR, register. -/
def execRorReg (o : ShiftReg) (s : State) : Out :=
  runInstr o.cond [sbz o.sbz19_16, rsrPc [o.rd, o.rm, o.rs]] s fun s =>
    moveBody o.s o.rd (operandRsr o.rm .ror o.rs s) s

/-- R244: BIC, immediate. -/
def execBicImm (o : DpImm) (s : State) : Out :=
  runInstr o.cond [] s fun s => dpBody .bic o.s o.rd o.rn (operandImm o.imm12 s) s

/-- R244: BIC, register. -/
def execBicReg (o : DpReg) (s : State) : Out :=
  runInstr o.cond [] s fun s => dpBody .bic o.s o.rd o.rn (operandReg o.rm o.type o.imm5 s) s

/-- R244, R222: BIC, register-shifted register. -/
def execBicRsr (o : DpRsr) (s : State) : Out :=
  runInstr o.cond [rsrPc [o.rd, o.rn, o.rm, o.rs]] s fun s =>
    dpBody .bic o.s o.rd o.rn (operandRsr o.rm (decodeRegShift o.type) o.rs s) s

/-- R245: MVN, immediate. -/
def execMvnImm (o : MovImm) (s : State) : Out :=
  runInstr o.cond [sbz o.sbz19_16] s fun s => moveBody o.s o.rd (complement (operandImm o.imm12 s)) s

/-- R245: MVN, register. -/
def execMvnReg (o : MvnReg) (s : State) : Out :=
  runInstr o.cond [sbz o.sbz19_16] s fun s => moveBody o.s o.rd (complement (operandReg o.rm o.type o.imm5 s)) s

/-- R245, R222: MVN, register-shifted register. -/
def execMvnRsr (o : MvnRsr) (s : State) : Out :=
  runInstr o.cond [sbz o.sbz19_16, rsrPc [o.rd, o.rm, o.rs]] s fun s =>
    moveBody o.s o.rd (complement (operandRsr o.rm (decodeRegShift o.type) o.rs s)) s

end Sys2Proof.Machine
end

