-- ==== Sys2Proof/Machine/ExtraLoadStore.lean ====
section
/-! DEFINITION. Extra loads and stores (R169, R170, R360 to R369; rows 62 to 82 of the opcode table). -/

namespace Sys2Proof.Machine

/-- R170: LDRD or STRD with P = 0 and W = 1. DESIGN CHOICE (log entry 9): R170's category is reported also where the
should-be field of a register form is violated (R190). -/
def execUnpredLdrdStrd (_w : Word) (_s : State) : Out := .fault (.unpredictable .ldrdStrdPostWback)

/-- R365: STRHT, immediate. -/
def execStrhtImm (o : ExtraTImm) (s : State) : Out :=
  runInstr o.cond (tCases 365 o.rn o.rt) s fun s =>
    storeBody .half true true (addressingT o.u o.rn (offsetSplit o.imm4H o.imm4L) s) o.rn o.rt s

/-- R365: STRHT, register. -/
def execStrhtReg (o : ExtraTReg) (s : State) : Out :=
  runInstr o.cond (sbz o.sbz11_8 :: (o.rm == pcReg, .rule 345) :: tCases 365 o.rn o.rt) s fun s =>
    storeBody .half true true (addressingT o.u o.rn (s.reg o.rm) s) o.rn o.rt s

/-- R361: STRH, immediate. -/
def execStrhImm (o : ExtraImm) (s : State) : Out :=
  runInstr o.cond (storeCases 361 (wbackOf o.p o.w) o.rn o.rt) s fun s =>
    storeBody .half false true (addressing o.p o.u o.w o.rn (offsetSplit o.imm4H o.imm4L) s) o.rn o.rt s

/-- R361: STRH, register. -/
def execStrhReg (o : ExtraReg) (s : State) : Out :=
  runInstr o.cond
    (sbz o.sbz11_8 :: (o.rm == pcReg, .rule 340) :: storeCases 361 (wbackOf o.p o.w) o.rn o.rt) s fun s =>
    storeBody .half false true (addressing o.p o.u o.w o.rn (s.reg o.rm) s) o.rn o.rt s

/-- R364: LDRHT, immediate. -/
def execLdrhtImm (o : ExtraTImm) (s : State) : Out :=
  runInstr o.cond (tCases 364 o.rn o.rt) s fun s =>
    loadBody .half true true id (addressingT o.u o.rn (offsetSplit o.imm4H o.imm4L) s) o.rn o.rt s

/-- R364: LDRHT, register. -/
def execLdrhtReg (o : ExtraTReg) (s : State) : Out :=
  runInstr o.cond (sbz o.sbz11_8 :: (o.rm == pcReg, .rule 345) :: tCases 364 o.rn o.rt) s fun s =>
    loadBody .half true true id (addressingT o.u o.rn (s.reg o.rm) s) o.rn o.rt s

/-- R360: LDRH, immediate and literal. -/
def execLdrhImm (o : ExtraImm) (s : State) : Out :=
  runInstr o.cond (loadCases 360 (wbackOf o.p o.w) o.rn o.rt) s fun s =>
    loadBody .half false true id (addressing o.p o.u o.w o.rn (offsetSplit o.imm4H o.imm4L) s) o.rn o.rt s

/-- R360: LDRH, register. -/
def execLdrhReg (o : ExtraReg) (s : State) : Out :=
  runInstr o.cond
    (sbz o.sbz11_8 :: (o.rm == pcReg, .rule 340) :: loadCases 360 (wbackOf o.p o.w) o.rn o.rt) s fun s =>
    loadBody .half false true id (addressing o.p o.u o.w o.rn (s.reg o.rm) s) o.rn o.rt s

/-- R368: LDRD, immediate and literal. -/
def execLdrdImm (o : ExtraImm) (s : State) : Out :=
  runInstr o.cond (dualCases 368 (wbackOf o.p o.w) o.rn o.rt) s fun s =>
    loadDualBody (addressing o.p o.u o.w o.rn (offsetSplit o.imm4H o.imm4L) s) o.rn o.rt s

/-- R368: LDRD, register. -/
def execLdrdReg (o : ExtraReg) (s : State) : Out :=
  runInstr o.cond
    (sbz o.sbz11_8 :: (o.rm == pcReg || o.rm == o.rt || o.rm == o.rt + 1, .rule 368) :: dualCases 368 (wbackOf o.p o.w) o.rn o.rt) s fun s =>
    loadDualBody (addressing o.p o.u o.w o.rn (s.reg o.rm) s) o.rn o.rt s

/-- R366: LDRSBT, immediate. -/
def execLdrsbtImm (o : ExtraTImm) (s : State) : Out :=
  runInstr o.cond (tCases 366 o.rn o.rt) s fun s =>
    loadBody .byte true false sextByte (addressingT o.u o.rn (offsetSplit o.imm4H o.imm4L) s) o.rn o.rt s

/-- R366: LDRSBT, register. -/
def execLdrsbtReg (o : ExtraTReg) (s : State) : Out :=
  runInstr o.cond (sbz o.sbz11_8 :: (o.rm == pcReg, .rule 345) :: tCases 366 o.rn o.rt) s fun s =>
    loadBody .byte true false sextByte (addressingT o.u o.rn (s.reg o.rm) s) o.rn o.rt s

/-- R362: LDRSB, immediate and literal. -/
def execLdrsbImm (o : ExtraImm) (s : State) : Out :=
  runInstr o.cond (loadCases 362 (wbackOf o.p o.w) o.rn o.rt) s fun s =>
    loadBody .byte false false sextByte (addressing o.p o.u o.w o.rn (offsetSplit o.imm4H o.imm4L) s) o.rn o.rt s

/-- R362: LDRSB, register. -/
def execLdrsbReg (o : ExtraReg) (s : State) : Out :=
  runInstr o.cond
    (sbz o.sbz11_8 :: (o.rm == pcReg, .rule 340) :: loadCases 362 (wbackOf o.p o.w) o.rn o.rt) s fun s =>
    loadBody .byte false false sextByte (addressing o.p o.u o.w o.rn (s.reg o.rm) s) o.rn o.rt s

/-- R369: STRD, immediate. -/
def execStrdImm (o : ExtraImm) (s : State) : Out :=
  runInstr o.cond (dualCases 369 (wbackOf o.p o.w) o.rn o.rt) s fun s =>
    storeDualBody (addressing o.p o.u o.w o.rn (offsetSplit o.imm4H o.imm4L) s) o.rn o.rt s

/-- R369: STRD, register. -/
def execStrdReg (o : ExtraReg) (s : State) : Out :=
  runInstr o.cond
    (sbz o.sbz11_8 :: (o.rm == pcReg, .rule 369) :: dualCases 369 (wbackOf o.p o.w) o.rn o.rt) s fun s =>
    storeDualBody (addressing o.p o.u o.w o.rn (s.reg o.rm) s) o.rn o.rt s

/-- R367: LDRSHT, immediate. -/
def execLdrshtImm (o : ExtraTImm) (s : State) : Out :=
  runInstr o.cond (tCases 367 o.rn o.rt) s fun s =>
    loadBody .half true true sextHalf (addressingT o.u o.rn (offsetSplit o.imm4H o.imm4L) s) o.rn o.rt s

/-- R367: LDRSHT, register. -/
def execLdrshtReg (o : ExtraTReg) (s : State) : Out :=
  runInstr o.cond (sbz o.sbz11_8 :: (o.rm == pcReg, .rule 345) :: tCases 367 o.rn o.rt) s fun s =>
    loadBody .half true true sextHalf (addressingT o.u o.rn (s.reg o.rm) s) o.rn o.rt s

/-- R363: LDRSH, immediate and literal. -/
def execLdrshImm (o : ExtraImm) (s : State) : Out :=
  runInstr o.cond (loadCases 363 (wbackOf o.p o.w) o.rn o.rt) s fun s =>
    loadBody .half false true sextHalf (addressing o.p o.u o.w o.rn (offsetSplit o.imm4H o.imm4L) s) o.rn o.rt s

/-- R363: LDRSH, register. -/
def execLdrshReg (o : ExtraReg) (s : State) : Out :=
  runInstr o.cond
    (sbz o.sbz11_8 :: (o.rm == pcReg, .rule 340) :: loadCases 363 (wbackOf o.p o.w) o.rn o.rt) s fun s =>
    loadBody .half false true sextHalf (addressing o.p o.u o.w o.rn (s.reg o.rm) s) o.rn o.rt s

end Sys2Proof.Machine
end

