-- ==== Sys2Proof/Machine/Psr.lean ====
section
/-! DEFINITION. What MRS reads and MSR writes (R450 to R452), shared by their forms. -/

namespace Sys2Proof.Machine

/-- R450: the value MRS reads: CPSR without its execution-state bits, or the SPSR of the mode. -/
def mrsBody (r : Bool) (rd : Reg) (s : State) : Res Unit :=
  if r then
    match s.spsr.get s.mode with
    | none => .halt (.unpredictable .noSPSR)
    | some v => .done (s.setReg rd v)
  else .done (s.setReg rd (s.cpsr &&& 0xF8FF03DF))

/-- R451, R452: MSR of a value under a mask. -/
def msrBody (r : Bool) (mask : BitVec 4) (value : Word) (s : State) : Res Unit :=
  if r then spsrWriteByInstr value mask s else cpsrWriteByInstr value mask false s

end Sys2Proof.Machine
end

