-- ==== Sys2Proof/Machine/Hints.lean ====
section
/-! DEFINITION. MOVW, MOVT, the hints and MSR immediate (R163, R172, R255, R256, R451, R460 to R467; rows 83 to 93 of
the opcode table). -/

namespace Sys2Proof.Machine

/-- R255: MOVW. -/
def execMovw (o : MovwOp) (s : State) : Out :=
  runInstr o.cond [(o.rd == pcReg, .rule 255)] s fun s => .done (s.setReg o.rd (zext (o.imm4 ++ o.imm12)))

/-- R256: MOVT. -/
def execMovt (o : MovwOp) (s : State) : Out :=
  runInstr o.cond [(o.rd == pcReg, .rule 256)] s fun s =>
    .done (s.setReg o.rd (putSlice (s.reg o.rd) 16 (o.imm4 ++ o.imm12)))

/-- R460: NOP. -/
def execNop (o : HintOp) (s : State) : Out :=
  runInstr o.cond [sbo o.sbo15_12, sbz o.sbz11_8] s .done

/-- R461: YIELD, which executes as NOP. -/
def execYield (o : HintOp) (s : State) : Out :=
  runInstr o.cond [sbo o.sbo15_12, sbz o.sbz11_8] s .done

/-- R462: WFE, whose wait completes at once. -/
def execWfe (o : HintOp) (s : State) : Out :=
  runInstr o.cond [sbo o.sbo15_12, sbz o.sbz11_8] s .done

/-- R467: WFI: the wait begins unless an interrupt is pending, masked or not. -/
def execWfi (o : HintOp) (s : State) : Out :=
  runInstr o.cond [sbo o.sbo15_12, sbz o.sbz11_8] s fun s =>
    .done (if s.irqPending || s.fiqPending then s else { s with waiting := true })

/-- R463: SEV, which executes as NOP. -/
def execSev (o : HintOp) (s : State) : Out :=
  runInstr o.cond [sbo o.sbo15_12, sbz o.sbz11_8] s .done

/-- R464: DBG, which executes as NOP. -/
def execDbg (o : DbgOp) (s : State) : Out :=
  runInstr o.cond [sbo o.sbo15_12, sbz o.sbz11_8] s .done

/-- R465: an unallocated hint, which executes as NOP. -/
def execHintUnallocated (o : HintUnallocOp) (s : State) : Out :=
  runInstr o.cond [sbo o.sbo15_12, sbz o.sbz11_8] s .done

/-- R172: MSR SPSR with an empty mask. DESIGN CHOICE (log entry 9): the decode table's number is reported, also where a
should-be field of the format is violated (R190). -/
def execUnpredMsrImm (_w : Word) (_s : State) : Out := .fault (.unpredictable (.rule 172))

/-- R451: MSR (immediate). -/
def execMsrImm (o : MsrImmOp) (s : State) : Out :=
  runInstr o.cond [sbo o.sbo15_12] s fun s => msrBody o.r o.mask (operandImm o.imm12 s).1 s

end Sys2Proof.Machine
end

