-- ==== Sys2Proof/Machine/LoadStore.lean ====
section
/-! DEFINITION. Loads and stores of a word or an unsigned byte (R173, R350 to R357; rows 150 to 165 of the opcode
table). -/

namespace Sys2Proof.Machine

/-- R356: STRT, immediate. -/
def execStrtImm (o : LsTImm) (s : State) : Out :=
  runInstr o.cond (tStoreCases o.rn o.rt) s fun s =>
    storeBody .word true true (addressingT o.u o.rn (zext o.imm12) s) o.rn o.rt s

/-- R356: STRT, register. -/
def execStrtReg (o : LsTReg) (s : State) : Out :=
  runInstr o.cond ((o.rm == pcReg, .rule 345) :: tStoreCases o.rn o.rt) s fun s =>
    storeBody .word true true (addressingT o.u o.rn (offsetReg o.rm o.type o.imm5 s) s) o.rn o.rt s

/-- R352: STR, immediate. -/
def execStrImm (o : LsImm) (s : State) : Out :=
  runInstr o.cond (storePcCases 352 (wbackOf o.p o.w) o.rn o.rt) s fun s =>
    storeBody .word false true (addressing o.p o.u o.w o.rn (zext o.imm12) s) o.rn o.rt s

/-- R352: STR, register. -/
def execStrReg (o : LsReg) (s : State) : Out :=
  runInstr o.cond ((o.rm == pcReg, .rule 340) :: storePcCases 352 (wbackOf o.p o.w) o.rn o.rt) s fun s =>
    storeBody .word false true (addressing o.p o.u o.w o.rn (offsetReg o.rm o.type o.imm5 s) s) o.rn o.rt s

/-- R354: LDRT, immediate. -/
def execLdrtImm (o : LsTImm) (s : State) : Out :=
  runInstr o.cond (tCases 354 o.rn o.rt) s fun s =>
    loadBody .word true true id (addressingT o.u o.rn (zext o.imm12) s) o.rn o.rt s

/-- R354: LDRT, register. -/
def execLdrtReg (o : LsTReg) (s : State) : Out :=
  runInstr o.cond ((o.rm == pcReg, .rule 345) :: tCases 354 o.rn o.rt) s fun s =>
    loadBody .word true true id (addressingT o.u o.rn (offsetReg o.rm o.type o.imm5 s) s) o.rn o.rt s

/-- R350: LDR, immediate and literal. -/
def execLdrImm (o : LsImm) (s : State) : Out :=
  runInstr o.cond (loadPcCases 350 (wbackOf o.p o.w) o.rn o.rt) s fun s =>
    loadWordBody (addressing o.p o.u o.w o.rn (zext o.imm12) s) o.rn o.rt s

/-- R350: LDR, register. -/
def execLdrReg (o : LsReg) (s : State) : Out :=
  runInstr o.cond ((o.rm == pcReg, .rule 340) :: loadPcCases 350 (wbackOf o.p o.w) o.rn o.rt) s fun s =>
    loadWordBody (addressing o.p o.u o.w o.rn (offsetReg o.rm o.type o.imm5 s) s) o.rn o.rt s

/-- R357: STRBT, immediate. -/
def execStrbtImm (o : LsTImm) (s : State) : Out :=
  runInstr o.cond (tCases 357 o.rn o.rt) s fun s =>
    storeBody .byte true false (addressingT o.u o.rn (zext o.imm12) s) o.rn o.rt s

/-- R357: STRBT, register. -/
def execStrbtReg (o : LsTReg) (s : State) : Out :=
  runInstr o.cond ((o.rm == pcReg, .rule 345) :: tCases 357 o.rn o.rt) s fun s =>
    storeBody .byte true false (addressingT o.u o.rn (offsetReg o.rm o.type o.imm5 s) s) o.rn o.rt s

/-- R353: STRB, immediate. -/
def execStrbImm (o : LsImm) (s : State) : Out :=
  runInstr o.cond (storeCases 353 (wbackOf o.p o.w) o.rn o.rt) s fun s =>
    storeBody .byte false false (addressing o.p o.u o.w o.rn (zext o.imm12) s) o.rn o.rt s

/-- R353: STRB, register. -/
def execStrbReg (o : LsReg) (s : State) : Out :=
  runInstr o.cond ((o.rm == pcReg, .rule 340) :: storeCases 353 (wbackOf o.p o.w) o.rn o.rt) s fun s =>
    storeBody .byte false false (addressing o.p o.u o.w o.rn (offsetReg o.rm o.type o.imm5 s) s) o.rn o.rt s

/-- R355: LDRBT, immediate. -/
def execLdrbtImm (o : LsTImm) (s : State) : Out :=
  runInstr o.cond (tCases 355 o.rn o.rt) s fun s =>
    loadBody .byte true false id (addressingT o.u o.rn (zext o.imm12) s) o.rn o.rt s

/-- R355: LDRBT, register. -/
def execLdrbtReg (o : LsTReg) (s : State) : Out :=
  runInstr o.cond ((o.rm == pcReg, .rule 345) :: tCases 355 o.rn o.rt) s fun s =>
    loadBody .byte true false id (addressingT o.u o.rn (offsetReg o.rm o.type o.imm5 s) s) o.rn o.rt s

/-- R351: LDRB, immediate and literal. -/
def execLdrbImm (o : LsImm) (s : State) : Out :=
  runInstr o.cond (loadCases 351 (wbackOf o.p o.w) o.rn o.rt) s fun s =>
    loadBody .byte false false id (addressing o.p o.u o.w o.rn (zext o.imm12) s) o.rn o.rt s

/-- R351: LDRB, register. -/
def execLdrbReg (o : LsReg) (s : State) : Out :=
  runInstr o.cond ((o.rm == pcReg, .rule 340) :: loadCases 351 (wbackOf o.p o.w) o.rn o.rt) s fun s =>
    loadBody .byte false false id (addressing o.p o.u o.w o.rn (offsetReg o.rm o.type o.imm5 s) s) o.rn o.rt s

end Sys2Proof.Machine
end

