-- ==== Sys2Proof/Machine/Media.lean ====
section
/-! DEFINITION. The media space (R174, R301 to R319, R501; rows 166 to 195 of the opcode table). -/

namespace Sys2Proof.Machine

/-- R174, R192: the parallel additions and subtractions. -/
def execParallelAddSub (_w : Word) (_s : State) : Out := .fault (.notImplemented .parallelAddSub)

/-- R174, R192: PKHBT, PKHTB. -/
def execPkh (_w : Word) (_s : State) : Out := .fault (.notImplemented .pkh)

/-- R305 to R316: `ROR(R[m], 8 * UInt(rotate))`. -/
def State.rotated (s : State) (rm : Reg) (rotate : BitVec 2) : Word := ror (s.reg rm) (8 * rotate.toNat)

/-- R307: two bytes, sign-extended to halfwords. -/
def sextBytes (v : Word) : Word := (slice v 16 8).signExtend 16 ++ (slice v 0 8).signExtend 16

/-- R313: two bytes, zero-extended to halfwords. -/
def zextBytes (v : Word) : Word := (slice v 16 8).setWidth 16 ++ (slice v 0 8).setWidth 16

/-- R310, R316: the sums of the two halfwords of `x` and `y`, each modulo 2^16. -/
def addHalves (x y : Word) : Word := (slice x 16 16 + slice y 16 16) ++ (slice x 0 16 + slice y 0 16)

/-- R307: SXTB16. -/
def execSxtb16 (o : ExtendOp) (s : State) : Out :=
  runInstr o.cond [sbz o.sbz9_8, (anyPc [o.rd, o.rm], .rule 307)] s fun s =>
    .done (s.setReg o.rd (sextBytes (s.rotated o.rm o.rotate)))

/-- R310: SXTAB16. -/
def execSxtab16 (o : ExtendAddOp) (s : State) : Out :=
  runInstr o.cond [sbz o.sbz9_8, (anyPc [o.rd, o.rm], .rule 310)] s fun s =>
    .done (s.setReg o.rd (addHalves (s.reg o.rn) (sextBytes (s.rotated o.rm o.rotate))))

/-- R305: SXTB. -/
def execSxtb (o : ExtendOp) (s : State) : Out :=
  runInstr o.cond [sbz o.sbz9_8, (anyPc [o.rd, o.rm], .rule 305)] s fun s =>
    .done (s.setReg o.rd (sextByte (s.rotated o.rm o.rotate)))

/-- R308: SXTAB. -/
def execSxtab (o : ExtendAddOp) (s : State) : Out :=
  runInstr o.cond [sbz o.sbz9_8, (anyPc [o.rd, o.rm], .rule 308)] s fun s =>
    .done (s.setReg o.rd (s.reg o.rn + sextByte (s.rotated o.rm o.rotate)))

/-- R306: SXTH. -/
def execSxth (o : ExtendOp) (s : State) : Out :=
  runInstr o.cond [sbz o.sbz9_8, (anyPc [o.rd, o.rm], .rule 306)] s fun s =>
    .done (s.setReg o.rd (sextHalf (s.rotated o.rm o.rotate)))

/-- R309: SXTAH. -/
def execSxtah (o : ExtendAddOp) (s : State) : Out :=
  runInstr o.cond [sbz o.sbz9_8, (anyPc [o.rd, o.rm], .rule 309)] s fun s =>
    .done (s.setReg o.rd (s.reg o.rn + sextHalf (s.rotated o.rm o.rotate)))

/-- R313: UXTB16. -/
def execUxtb16 (o : ExtendOp) (s : State) : Out :=
  runInstr o.cond [sbz o.sbz9_8, (anyPc [o.rd, o.rm], .rule 313)] s fun s =>
    .done (s.setReg o.rd (zextBytes (s.rotated o.rm o.rotate)))

/-- R316: UXTAB16. -/
def execUxtab16 (o : ExtendAddOp) (s : State) : Out :=
  runInstr o.cond [sbz o.sbz9_8, (anyPc [o.rd, o.rm], .rule 316)] s fun s =>
    .done (s.setReg o.rd (addHalves (s.reg o.rn) (zextBytes (s.rotated o.rm o.rotate))))

/-- R311: UXTB. -/
def execUxtb (o : ExtendOp) (s : State) : Out :=
  runInstr o.cond [sbz o.sbz9_8, (anyPc [o.rd, o.rm], .rule 311)] s fun s =>
    .done (s.setReg o.rd (zext (slice (s.rotated o.rm o.rotate) 0 8)))

/-- R314: UXTAB. -/
def execUxtab (o : ExtendAddOp) (s : State) : Out :=
  runInstr o.cond [sbz o.sbz9_8, (anyPc [o.rd, o.rm], .rule 314)] s fun s =>
    .done (s.setReg o.rd (s.reg o.rn + zext (slice (s.rotated o.rm o.rotate) 0 8)))

/-- R312: UXTH. -/
def execUxth (o : ExtendOp) (s : State) : Out :=
  runInstr o.cond [sbz o.sbz9_8, (anyPc [o.rd, o.rm], .rule 312)] s fun s =>
    .done (s.setReg o.rd (zext (slice (s.rotated o.rm o.rotate) 0 16)))

/-- R315: UXTAH. -/
def execUxtah (o : ExtendAddOp) (s : State) : Out :=
  runInstr o.cond [sbz o.sbz9_8, (anyPc [o.rd, o.rm], .rule 315)] s fun s =>
    .done (s.setReg o.rd (s.reg o.rn + zext (slice (s.rotated o.rm o.rotate) 0 16)))

/-- R174, R192: SEL. -/
def execSel (_w : Word) (_s : State) : Out := .fault (.notImplemented .sel)

/-- R174, R192: SSAT16. -/
def execSsat16 (_w : Word) (_s : State) : Out := .fault (.notImplemented .saturating)

/-- R174, R192: SSAT. -/
def execSsat (_w : Word) (_s : State) : Out := .fault (.notImplemented .saturating)

/-- R317: the four bytes in the opposite order. -/
def revWord (v : Word) : Word := wordOfBytes (byteOf v 3) (byteOf v 2) (byteOf v 1) (byteOf v 0)

/-- R318: the two bytes of each halfword in the opposite order. -/
def revHalves (v : Word) : Word := wordOfBytes (byteOf v 1) (byteOf v 0) (byteOf v 3) (byteOf v 2)

/-- R319: the two low bytes in the opposite order, sign-extended. -/
def revSigned (v : Word) : Word := (byteOf v 0).signExtend 24 ++ byteOf v 1

/-- R317: REV. -/
def execRev (o : UnaryOp) (s : State) : Out :=
  runInstr o.cond [sbo o.sbo19_16, sbo o.sbo11_8, (anyPc [o.rd, o.rm], .rule 317)] s fun s =>
    .done (s.setReg o.rd (revWord (s.reg o.rm)))

/-- R318: REV16. -/
def execRev16 (o : UnaryOp) (s : State) : Out :=
  runInstr o.cond [sbo o.sbo19_16, sbo o.sbo11_8, (anyPc [o.rd, o.rm], .rule 318)] s fun s =>
    .done (s.setReg o.rd (revHalves (s.reg o.rm)))

/-- R174, R192: USAT16. -/
def execUsat16 (_w : Word) (_s : State) : Out := .fault (.notImplemented .saturating)

/-- R174, R192: USAT. -/
def execUsat (_w : Word) (_s : State) : Out := .fault (.notImplemented .saturating)

/-- R174, R192: RBIT. -/
def execRbit (_w : Word) (_s : State) : Out := .fault (.notImplemented .rbit)

/-- R319: REVSH. -/
def execRevsh (o : UnaryOp) (s : State) : Out :=
  runInstr o.cond [sbo o.sbo19_16, sbo o.sbo11_8, (anyPc [o.rd, o.rm], .rule 319)] s fun s =>
    .done (s.setReg o.rd (revSigned (s.reg o.rm)))

/-- R174, R192: the signed multiplies and divides of the media space. -/
def execSignedMultiply (_w : Word) (_s : State) : Out := .fault (.notImplemented .signedMultiply)

/-- R174, R192: USAD8, USADA8. -/
def execUsad8 (_w : Word) (_s : State) : Out := .fault (.notImplemented .usad8)

/-- R301, R302: the UNPREDICTABLE operands of a bitfield extract. -/
def bfxCases (rule : Nat) (o : BfxOp) : List (Bool × Unpred) :=
  [(anyPc [o.rd, o.rn], .rule rule), (decide (31 < o.lsb.toNat + o.widthm1.toNat), .rule rule)]

/-- R301: SBFX. -/
def execSbfx (o : BfxOp) (s : State) : Out :=
  runInstr o.cond (bfxCases 301 o) s fun s =>
    .done (s.setReg o.rd (sext (slice (s.reg o.rn) o.lsb.toNat (o.widthm1.toNat + 1))))

/-- R304: BFC. -/
def execBfc (o : BfcOp) (s : State) : Out :=
  runInstr o.cond [(o.rd == pcReg, .rule 304), (decide (o.msb.toNat < o.lsb.toNat), .rule 304)] s fun s =>
    .done (s.setReg o.rd (putSlice (s.reg o.rd) o.lsb.toNat (0 : BitVec (o.msb.toNat - o.lsb.toNat + 1))))

/-- R303: BFI. -/
def execBfi (o : BfiOp) (s : State) : Out :=
  runInstr o.cond [(o.rd == pcReg, .rule 303), (decide (o.msb.toNat < o.lsb.toNat), .rule 303)] s fun s =>
    .done (s.setReg o.rd (putSlice (s.reg o.rd) o.lsb.toNat (slice (s.reg o.rn) 0 (o.msb.toNat - o.lsb.toNat + 1))))

/-- R501: UDF raises the Undefined Instruction exception whatever its condition. -/
def execUdf (_o : TrapOp) (s : State) : Out := runUndefined s

/-- R302: UBFX. -/
def execUbfx (o : BfxOp) (s : State) : Out :=
  runInstr o.cond (bfxCases 302 o) s fun s =>
    .done (s.setReg o.rd (zext (slice (s.reg o.rn) o.lsb.toNat (o.widthm1.toNat + 1))))

end Sys2Proof.Machine
end

