-- ==== Sys2Proof/Machine/Miscellaneous.lean ====
section
/-! DEFINITION. The miscellaneous space (R171; rows 33 to 46 of the opcode table): status registers, branch and
exchange, CLZ, and the rows the core does not implement or leaves UNDEFINED. -/

namespace Sys2Proof.Machine

/-- R171, R191: MRS and MSR of a banked register. -/
def execMrsMsrBanked (_w : Word) (s : State) : Out := runUndefined s

/-- R450: MRS. -/
def execMrs (o : MrsOp) (s : State) : Out :=
  runInstr o.cond [sbo o.sbo19_16, sbz o.sbz11_10, sbz o.sbz8, sbz o.sbz3_0, (o.rd == pcReg, .rule 450)] s
    (mrsBody o.r o.rd)

/-- R452: MSR (register). -/
def execMsrReg (o : MsrRegOp) (s : State) : Out :=
  runInstr o.cond [sbo o.sbo15_12, sbz o.sbz11_10, sbz o.sbz8, (o.rn == pcReg || o.mask == 0, .rule 452)] s fun s =>
    msrBody o.r o.mask (s.reg o.rn) s

/-- R402: BX. -/
def execBx (o : BxOp) (s : State) : Out :=
  runInstr o.cond [sbo o.sbo19_8] s fun s => bxWritePC (s.reg o.rm) s

/-- R300: CLZ. -/
def execClz (o : UnaryOp) (s : State) : Out :=
  runInstr o.cond [sbo o.sbo19_16, sbo o.sbo11_8, (anyPc [o.rd, o.rm], .rule 300)] s fun s =>
    .done (s.setReg o.rd (BitVec.ofNat 32 (countLeadingZeroBits (s.reg o.rm))))

/-- R404: BXJ, which behaves as BX. -/
def execBxj (o : BxOp) (s : State) : Out :=
  runInstr o.cond [sbo o.sbo19_8, (o.rm == pcReg, .rule 404)] s fun s => bxWritePC (s.reg o.rm) s

/-- R403: BLX (register): the target is read before the link register is written, as R403 says and the parenthesis of R601
does not (log entry 27). -/
def execBlxReg (o : BxOp) (s : State) : Out :=
  runInstr o.cond [sbo o.sbo19_8, (o.rm == pcReg, .rule 403)] s fun s =>
    bxWritePC (s.reg o.rm) (s.setReg lrReg (s.pc + 4))

/-- R192, R190: QADD, QSUB, QDADD, QDSUB (log entry 24). -/
def execQadd (o : QaddOp) (_s : State) : Out :=
  if o.sbz11_8 != 0 then .fault (.unpredictable (.rule 190)) else .fault (.notImplemented .saturating)

/-- R171, R191: ERET. -/
def execEret (_w : Word) (s : State) : Out := runUndefined s

/-- R502: BKPT halts whatever its condition. -/
def execBkpt (_o : TrapOp) (_s : State) : Out := .fault (.notImplemented .bkpt)

/-- R171, R191: HVC. -/
def execHvc (_w : Word) (s : State) : Out := runUndefined s

/-- R503, R190: SMC (log entry 24). -/
def execSmc (o : SmcOp) (_s : State) : Out :=
  if o.sbz19_8 != 0 then .fault (.unpredictable (.rule 190)) else .fault (.notImplemented .smc)

/-- R163, R192: the halfword multiplies. -/
def execHalfwordMultiply (_w : Word) (_s : State) : Out := .fault (.notImplemented .halfwordMultiply)

/-- R171, R191: every other miscellaneous word. -/
def execUndefMisc (_w : Word) (s : State) : Out := runUndefined s

end Sys2Proof.Machine
end

