-- ==== Sys2Proof/Machine/Multiply.lean ====
section
/-! DEFINITION. The multiplies (R167, R280 to R287; rows 47 to 56 of the opcode table). -/

namespace Sys2Proof.Machine

/-- R280 to R286: N and Z of a multiply with S = 1; C and V are unchanged. -/
def State.mulFlags (s : State) (setflags n z : Bool) : State :=
  if setflags then { s with cpsr := setNZ s.cpsr n z } else s

/-- R280 to R282: the write of a 32-bit result. -/
def mulWrite (rd : Reg) (setflags : Bool) (result : Word) (s : State) : Res Unit :=
  .done ((s.setReg rd result).mulFlags setflags (bit result 31) (result == 0))

/-- R283 to R286: the write of a 64-bit result. -/
def mulLongWrite (rdHi rdLo : Reg) (setflags : Bool) (result : BitVec 64) (s : State) : Res Unit :=
  .done (((s.setReg rdHi (result.extractLsb' 32 32)).setReg rdLo (result.extractLsb' 0 32)).mulFlags setflags
    (result.getLsbD 63) (result == 0))

/-- R284, R286: the accumulator `R[dHi]:R[dLo]`. -/
def State.regPair (s : State) (hi lo : Reg) : BitVec 64 := s.reg hi ++ s.reg lo

/-- R283: the UNPREDICTABLE registers of the long multiplies. DESIGN CHOICE (log entry 9): R284 to R286 say as rule R283, and the
number reported is that of the instruction. -/
def mulLongCases (rule : Nat) (o : MulLongOp) : List (Bool × Unpred) :=
  [(anyPc [o.rdHi, o.rdLo, o.rn, o.rm], .rule rule), (o.rdHi == o.rdLo, .rule rule)]

/-- R280: MUL. -/
def execMul (o : MulOp) (s : State) : Out :=
  runInstr o.cond [sbz o.sbz15_12, (anyPc [o.rd, o.rn, o.rm], .rule 280)] s fun s =>
    mulWrite o.rd o.s
      (BitVec.ofNat 32 ((s.reg o.rn).toNat * (s.reg o.rm).toNat)) s

/-- R281: MLA. -/
def execMla (o : MlaOp) (s : State) : Out :=
  runInstr o.cond [(anyPc [o.rd, o.rn, o.rm, o.ra], .rule 281)] s fun s =>
    mulWrite o.rd o.s
      (BitVec.ofNat 32 ((s.reg o.rn).toNat * (s.reg o.rm).toNat + (s.reg o.ra).toNat)) s

/-- R167, R192: UMAAL. -/
def execUmaal (_w : Word) (_s : State) : Out := .fault (.notImplemented .umaal)

/-- R167, R287: the multiply word 0101. -/
def execUndefMultiply0101 (_w : Word) (s : State) : Out := runUndefined s

/-- R282: MLS. -/
def execMls (o : MlsOp) (s : State) : Out :=
  runInstr o.cond [(anyPc [o.rd, o.rn, o.rm, o.ra], .rule 282)] s fun s =>
    mulWrite o.rd false
      (BitVec.ofInt 32 ((s.reg o.ra).toNat - (s.reg o.rn).toNat * (s.reg o.rm).toNat : Int)) s

/-- R167, R287: the multiply word 0111. -/
def execUndefMultiply0111 (_w : Word) (s : State) : Out := runUndefined s

/-- R283: UMULL. -/
def execUmull (o : MulLongOp) (s : State) : Out :=
  runInstr o.cond (mulLongCases 283 o) s fun s =>
    mulLongWrite o.rdHi o.rdLo o.s
      (BitVec.ofNat 64 ((s.reg o.rn).toNat * (s.reg o.rm).toNat)) s

/-- R284: UMLAL. -/
def execUmlal (o : MulLongOp) (s : State) : Out :=
  runInstr o.cond (mulLongCases 284 o) s fun s =>
    mulLongWrite o.rdHi o.rdLo o.s
      (BitVec.ofNat 64 ((s.reg o.rn).toNat * (s.reg o.rm).toNat + (s.regPair o.rdHi o.rdLo).toNat)) s

/-- R285: SMULL. -/
def execSmull (o : MulLongOp) (s : State) : Out :=
  runInstr o.cond (mulLongCases 285 o) s fun s =>
    mulLongWrite o.rdHi o.rdLo o.s
      (BitVec.ofInt 64 ((s.reg o.rn).toInt * (s.reg o.rm).toInt)) s

/-- R286: SMLAL. -/
def execSmlal (o : MulLongOp) (s : State) : Out :=
  runInstr o.cond (mulLongCases 286 o) s fun s =>
    mulLongWrite o.rdHi o.rdLo o.s
      (BitVec.ofInt 64 ((s.reg o.rn).toInt * (s.reg o.rm).toInt + (s.regPair o.rdHi o.rdLo).toInt)) s

end Sys2Proof.Machine
end

