-- ==== Sys2Proof/Machine/Sync.lean ====
section
/-! DEFINITION. The synchronization primitives (R168; rows 57 to 61 of the opcode table). -/

namespace Sys2Proof.Machine

/-- R192, R190: SWP, SWPB (log entry 24). -/
def execSwp (o : SwpOp) (_s : State) : Out :=
  if o.sbz11_8 != 0 then .fault (.unpredictable (.rule 190)) else .fault (.notImplemented .swp)

/-- R481: the address is translated, and checked as a write, before the monitor is tested (log entry 15). -/
def strexBody (rn rd rt : Reg) (s : State) : Res Unit :=
  translateThen (s.reg rn) (writeAccess false false) s fun pa =>
    if s.monitor = .exclusive pa then
      (memWrite (s.reg rn) .word (s.reg rt) (writeAccess false false) s).andThen fun _ t =>
        .done ({ t with monitor := .idle }.setReg rd 0)
    else .done ({ s with monitor := .idle }.setReg rd 1)

/-- R481: STREX. -/
def execStrex (o : StrexOp) (s : State) : Out :=
  runInstr o.cond [sbo o.sbo11_8, (anyPc [o.rd, o.rt, o.rn] || o.rd == o.rn || o.rd == o.rt, .rule 481)] s
    (strexBody o.rn o.rd o.rt)

/-- R480: the read, the reservation of the physical address that its translation produced, the destination. -/
def ldrexBody (rn rt : Reg) (s : State) : Res Unit :=
  (memRead (s.reg rn) .word (readAccess false false) s).andThen fun data t =>
    translateThen (s.reg rn) (readAccess false false) t fun pa =>
      .done ({ t with monitor := .exclusive pa }.setReg rt data)

/-- R480: LDREX. -/
def execLdrex (o : LdrexOp) (s : State) : Out :=
  runInstr o.cond [sbo o.sbo11_8, sbo o.sbo3_0, (anyPc [o.rt, o.rn], .rule 480)] s (ldrexBody o.rn o.rt)

/-- R168, R192: LDREXB, STREXB, LDREXH, STREXH, LDREXD, STREXD. -/
def execExclusiveWidths (_w : Word) (_s : State) : Out := .fault (.notImplemented .exclusiveWidth)

/-- R168, R191: every other word of the synchronization space. -/
def execUndefSync (_w : Word) (s : State) : Out := runUndefined s

end Sys2Proof.Machine
end

