-- ==== Sys2Proof/Machine/Unconditional.lean ====
section
/-! DEFINITION. The unconditional space (R175, R176; rows 0 to 32 of the opcode table): CPS, SETEND, memory hints,
barriers, CLREX, and the rows the core does not implement or leaves UNDEFINED. -/

namespace Sys2Proof.Machine

/-- R453: the combinations of imod, M, A, I, F and mode that are UNPREDICTABLE. -/
def cpsInconsistent (o : CpsOp) : Bool :=
  let anyMask := o.a || o.i || o.f
  let change := o.imod.getLsbD 1
  (o.mode != 0 && !o.m) || (change && !anyMask) || (!change && anyMask) || o.imod == 1 || (o.imod == 0 && !o.m)

/-- R453: CPSR with the selected masks set (CPSID) or cleared (CPSIE) and the mode replaced. -/
def cpsValue (o : CpsOp) (cpsr : Word) : Word :=
  let selected : Word := placeBit o.a 8 ||| placeBit o.i 7 ||| placeBit o.f 6
  let masked := if o.imod = 2 then cpsr &&& ~~~selected else if o.imod = 3 then cpsr ||| selected else cpsr
  if o.m then putSlice masked 0 o.mode else masked

/-- R453: CPS. In User mode no effect. -/
def execCps (o : CpsOp) (s : State) : Out :=
  runAlways [sbz o.sbz15_9, (cpsInconsistent o, .rule 453)] s fun s =>
    if s.privileged then cpsrWriteByInstr (cpsValue o s.cpsr) 0b1111 false s else .done s

/-- R454: SETEND. -/
def execSetend (o : SetendOp) (s : State) : Out :=
  runAlways [sbz o.sbz15_10, sbz o.sbz8, sbz o.sbz3_0] s fun s => .done { s with cpsr := putBit s.cpsr 9 o.e }

/-- R193, R176: Advanced SIMD data processing. -/
def execSimdDataProcessing (_w : Word) (_s : State) : Out := .fault .simdOrVfp

/-- R193, R176: Advanced SIMD element and structure load and store. -/
def execSimdLoadStore (_w : Word) (_s : State) : Out := .fault .simdOrVfp

/-- R476: an unallocated memory hint, immediate form. -/
def execMemHintImm (_w : Word) (s : State) : Out := runAlways [] s .done

/-- R475: PLI, immediate and literal: no effect. -/
def execPliImm (o : PreloadImm) (s : State) : Out :=
  runAlways [sbo o.sbo15_12] s .done

/-- R176, R474: PLDW (immediate) with Rn = 1111. DESIGN CHOICE (log entry 9): the decode table's number is reported, though
R474 calls it UNPREDICTABLE too, and also where bits 15:12 are not 1111 (R190). -/
def execUnpredPldwImm (_w : Word) (_s : State) : Out := .fault (.unpredictable (.rule 176))

/-- R474: PLDW, immediate: no effect. -/
def execPldwImm (o : PreloadImm) (s : State) : Out :=
  runAlways [sbo o.sbo15_12] s .done

/-- R473: PLD, immediate and literal: no effect. -/
def execPldImm (o : PreloadImm) (s : State) : Out :=
  runAlways [sbo o.sbo15_12] s .done

/-- R176: the UNPREDICTABLE row 1010011. -/
def execUnpredUncond1010011 (_w : Word) (_s : State) : Out := .fault (.unpredictable (.rule 176))

/-- R482: CLREX. -/
def execClrex (o : ClrexOp) (s : State) : Out :=
  runAlways [sbo o.sbo19_12, sbz o.sbz11_8, sbo o.sbo3_0] s fun s => .done { s with monitor := .idle }

/-- R471: DSB: no effect, for every option. -/
def execDsb (o : BarrierOp) (s : State) : Out :=
  runAlways [sbo o.sbo19_12, sbz o.sbz11_8] s .done

/-- R470: DMB: no effect, for every option. -/
def execDmb (o : BarrierOp) (s : State) : Out :=
  runAlways [sbo o.sbo19_12, sbz o.sbz11_8] s .done

/-- R472: ISB: no effect, for every option. -/
def execIsb (o : BarrierOp) (s : State) : Out :=
  runAlways [sbo o.sbo19_12, sbz o.sbz11_8] s .done

/-- R176: the row 1010111 with another op2. DESIGN CHOICE (log entry 9): the decode table's number is reported, also where a
should-be field of the barriers is violated (R190). -/
def execUnpredUncond1010111 (_w : Word) (_s : State) : Out := .fault (.unpredictable (.rule 176))

/-- R176: the UNPREDICTABLE row 1011x11. -/
def execUnpredUncond1011x11 (_w : Word) (_s : State) : Out := .fault (.unpredictable (.rule 176))

/-- R476: an unallocated memory hint, register form. -/
def execMemHintReg (_w : Word) (s : State) : Out := runAlways [] s .done

/-- R475: PLI, register: no effect. DESIGN CHOICE (log entry 9): m = 15 reports R475, whose "as rule R473" makes it
UNPREDICTABLE. -/
def execPliReg (o : PreloadReg) (s : State) : Out :=
  runAlways [sbo o.sbo15_12, (o.rm == pcReg, .rule 475)] s .done

/-- R474: PLDW, register: no effect. DESIGN CHOICE (log entry 9): m = 15 reports R474, whose "as rule R473" makes it
UNPREDICTABLE. -/
def execPldwReg (o : PreloadReg) (s : State) : Out :=
  runAlways [sbo o.sbo15_12, (o.rm == pcReg, .rule 474)] s .done

/-- R473: PLD, register: no effect. -/
def execPldReg (o : PreloadReg) (s : State) : Out :=
  runAlways [sbo o.sbo15_12, (o.rm == pcReg, .rule 473)] s .done

/-- R176: the UNPREDICTABLE row 11xxx11. -/
def execUnpredUncond11xxx11 (_w : Word) (_s : State) : Out := .fault (.unpredictable (.rule 176))

/-- R176, R191: every other word of the hints and SIMD space. -/
def execUndefUncondMisc (_w : Word) (s : State) : Out := runUndefined s

/-- R175, R192: SRS. -/
def execSrs (_w : Word) (_s : State) : Out := .fault (.notImplemented .srs)

/-- R175, R192: RFE. -/
def execRfe (_w : Word) (_s : State) : Out := .fault (.notImplemented .rfe)

/-- R405: BLX (immediate) always enters Thumb state. -/
def execBlxImm (_o : BlxImmOp) (_s : State) : Out := .fault (.notImplemented .thumb)

/-- R175, R191: the coprocessor words 1100000x. -/
def execUndefUncond1100000 (_w : Word) (s : State) : Out := runUndefined s

/-- R193: coprocessors 10 and 11, LDC2, STC2, MCRR2 and MRRC2 forms. -/
def execVfpUncondLoadStore (_w : Word) (_s : State) : Out := .fault .simdOrVfp

/-- R193: coprocessors 10 and 11, CDP2, MCR2 and MRC2 forms. -/
def execVfpUncondData (_w : Word) (_s : State) : Out := .fault .simdOrVfp

/-- R496: MCRR2, MRRC2 to an absent coprocessor. -/
def execMcrr2 (_o : Mcrr2Op) (s : State) : Out := runUndefined s

/-- R496: STC2, LDC2 to an absent coprocessor. -/
def execStc2 (_o : Stc2Op) (s : State) : Out := runUndefined s

/-- R496: CDP2 to an absent coprocessor. -/
def execCdp2 (_o : Cdp2Op) (s : State) : Out := runUndefined s

/-- R496: MCR2, MRC2 to an absent coprocessor. -/
def execMcr2 (_o : Mcr2Op) (s : State) : Out := runUndefined s

/-- R175, R191: every other unconditional word. -/
def execUndefUncondOther (_w : Word) (s : State) : Out := runUndefined s

end Sys2Proof.Machine
end

