-- ==== Sys2Proof/Machine/Dispatch.lean ====
section
/-! DEFINITION. One arm for each instruction: its meaning. -/

namespace Sys2Proof.Machine

open Host (Outcome)

/-- The meaning of an instruction in a state (R14 step 4 and step 5). -/
def exec (i : Instr) (s : State) : Outcome State Fault Refusal :=
  match i with
  | .cps o => Sys2Proof.Machine.execCps o s
  | .setend o => Sys2Proof.Machine.execSetend o s
  | .simdDataProcessing w => Sys2Proof.Machine.execSimdDataProcessing w s
  | .simdLoadStore w => Sys2Proof.Machine.execSimdLoadStore w s
  | .memHintImm w => Sys2Proof.Machine.execMemHintImm w s
  | .pliImm o => Sys2Proof.Machine.execPliImm o s
  | .unpredPldwImm w => Sys2Proof.Machine.execUnpredPldwImm w s
  | .pldwImm o => Sys2Proof.Machine.execPldwImm o s
  | .pldImm o => Sys2Proof.Machine.execPldImm o s
  | .unpredUncond1010011 w => Sys2Proof.Machine.execUnpredUncond1010011 w s
  | .clrex o => Sys2Proof.Machine.execClrex o s
  | .dsb o => Sys2Proof.Machine.execDsb o s
  | .dmb o => Sys2Proof.Machine.execDmb o s
  | .isb o => Sys2Proof.Machine.execIsb o s
  | .unpredUncond1010111 w => Sys2Proof.Machine.execUnpredUncond1010111 w s
  | .unpredUncond1011x11 w => Sys2Proof.Machine.execUnpredUncond1011x11 w s
  | .memHintReg w => Sys2Proof.Machine.execMemHintReg w s
  | .pliReg o => Sys2Proof.Machine.execPliReg o s
  | .pldwReg o => Sys2Proof.Machine.execPldwReg o s
  | .pldReg o => Sys2Proof.Machine.execPldReg o s
  | .unpredUncond11xxx11 w => Sys2Proof.Machine.execUnpredUncond11xxx11 w s
  | .undefUncondMisc w => Sys2Proof.Machine.execUndefUncondMisc w s
  | .srs w => Sys2Proof.Machine.execSrs w s
  | .rfe w => Sys2Proof.Machine.execRfe w s
  | .blxImm o => Sys2Proof.Machine.execBlxImm o s
  | .undefUncond1100000 w => Sys2Proof.Machine.execUndefUncond1100000 w s
  | .vfpUncondLoadStore w => Sys2Proof.Machine.execVfpUncondLoadStore w s
  | .vfpUncondData w => Sys2Proof.Machine.execVfpUncondData w s
  | .mcrr2 o => Sys2Proof.Machine.execMcrr2 o s
  | .stc2 o => Sys2Proof.Machine.execStc2 o s
  | .cdp2 o => Sys2Proof.Machine.execCdp2 o s
  | .mcr2 o => Sys2Proof.Machine.execMcr2 o s
  | .undefUncondOther w => Sys2Proof.Machine.execUndefUncondOther w s
  | .mrsMsrBanked w => Sys2Proof.Machine.execMrsMsrBanked w s
  | .mrs o => Sys2Proof.Machine.execMrs o s
  | .msrReg o => Sys2Proof.Machine.execMsrReg o s
  | .bx o => Sys2Proof.Machine.execBx o s
  | .clz o => Sys2Proof.Machine.execClz o s
  | .bxj o => Sys2Proof.Machine.execBxj o s
  | .blxReg o => Sys2Proof.Machine.execBlxReg o s
  | .qadd o => Sys2Proof.Machine.execQadd o s
  | .eret w => Sys2Proof.Machine.execEret w s
  | .bkpt o => Sys2Proof.Machine.execBkpt o s
  | .hvc w => Sys2Proof.Machine.execHvc w s
  | .smc o => Sys2Proof.Machine.execSmc o s
  | .halfwordMultiply w => Sys2Proof.Machine.execHalfwordMultiply w s
  | .undefMisc w => Sys2Proof.Machine.execUndefMisc w s
  | .mul o => Sys2Proof.Machine.execMul o s
  | .mla o => Sys2Proof.Machine.execMla o s
  | .umaal w => Sys2Proof.Machine.execUmaal w s
  | .undefMultiply0101 w => Sys2Proof.Machine.execUndefMultiply0101 w s
  | .mls o => Sys2Proof.Machine.execMls o s
  | .undefMultiply0111 w => Sys2Proof.Machine.execUndefMultiply0111 w s
  | .umull o => Sys2Proof.Machine.execUmull o s
  | .umlal o => Sys2Proof.Machine.execUmlal o s
  | .smull o => Sys2Proof.Machine.execSmull o s
  | .smlal o => Sys2Proof.Machine.execSmlal o s
  | .swp o => Sys2Proof.Machine.execSwp o s
  | .strex o => Sys2Proof.Machine.execStrex o s
  | .ldrex o => Sys2Proof.Machine.execLdrex o s
  | .exclusiveWidths w => Sys2Proof.Machine.execExclusiveWidths w s
  | .undefSync w => Sys2Proof.Machine.execUndefSync w s
  | .unpredLdrdStrd w => Sys2Proof.Machine.execUnpredLdrdStrd w s
  | .strhtImm o => Sys2Proof.Machine.execStrhtImm o s
  | .strhtReg o => Sys2Proof.Machine.execStrhtReg o s
  | .strhImm o => Sys2Proof.Machine.execStrhImm o s
  | .strhReg o => Sys2Proof.Machine.execStrhReg o s
  | .ldrhtImm o => Sys2Proof.Machine.execLdrhtImm o s
  | .ldrhtReg o => Sys2Proof.Machine.execLdrhtReg o s
  | .ldrhImm o => Sys2Proof.Machine.execLdrhImm o s
  | .ldrhReg o => Sys2Proof.Machine.execLdrhReg o s
  | .ldrdImm o => Sys2Proof.Machine.execLdrdImm o s
  | .ldrdReg o => Sys2Proof.Machine.execLdrdReg o s
  | .ldrsbtImm o => Sys2Proof.Machine.execLdrsbtImm o s
  | .ldrsbtReg o => Sys2Proof.Machine.execLdrsbtReg o s
  | .ldrsbImm o => Sys2Proof.Machine.execLdrsbImm o s
  | .ldrsbReg o => Sys2Proof.Machine.execLdrsbReg o s
  | .strdImm o => Sys2Proof.Machine.execStrdImm o s
  | .strdReg o => Sys2Proof.Machine.execStrdReg o s
  | .ldrshtImm o => Sys2Proof.Machine.execLdrshtImm o s
  | .ldrshtReg o => Sys2Proof.Machine.execLdrshtReg o s
  | .ldrshImm o => Sys2Proof.Machine.execLdrshImm o s
  | .ldrshReg o => Sys2Proof.Machine.execLdrshReg o s
  | .movw o => Sys2Proof.Machine.execMovw o s
  | .movt o => Sys2Proof.Machine.execMovt o s
  | .nop o => Sys2Proof.Machine.execNop o s
  | .yield o => Sys2Proof.Machine.execYield o s
  | .wfe o => Sys2Proof.Machine.execWfe o s
  | .wfi o => Sys2Proof.Machine.execWfi o s
  | .sev o => Sys2Proof.Machine.execSev o s
  | .dbg o => Sys2Proof.Machine.execDbg o s
  | .hintUnallocated o => Sys2Proof.Machine.execHintUnallocated o s
  | .unpredMsrImm w => Sys2Proof.Machine.execUnpredMsrImm w s
  | .msrImm o => Sys2Proof.Machine.execMsrImm o s
  | .andImm o => Sys2Proof.Machine.execAndImm o s
  | .andReg o => Sys2Proof.Machine.execAndReg o s
  | .andRsr o => Sys2Proof.Machine.execAndRsr o s
  | .eorImm o => Sys2Proof.Machine.execEorImm o s
  | .eorReg o => Sys2Proof.Machine.execEorReg o s
  | .eorRsr o => Sys2Proof.Machine.execEorRsr o s
  | .subImm o => Sys2Proof.Machine.execSubImm o s
  | .subReg o => Sys2Proof.Machine.execSubReg o s
  | .subRsr o => Sys2Proof.Machine.execSubRsr o s
  | .rsbImm o => Sys2Proof.Machine.execRsbImm o s
  | .rsbReg o => Sys2Proof.Machine.execRsbReg o s
  | .rsbRsr o => Sys2Proof.Machine.execRsbRsr o s
  | .addImm o => Sys2Proof.Machine.execAddImm o s
  | .addReg o => Sys2Proof.Machine.execAddReg o s
  | .addRsr o => Sys2Proof.Machine.execAddRsr o s
  | .adcImm o => Sys2Proof.Machine.execAdcImm o s
  | .adcReg o => Sys2Proof.Machine.execAdcReg o s
  | .adcRsr o => Sys2Proof.Machine.execAdcRsr o s
  | .sbcImm o => Sys2Proof.Machine.execSbcImm o s
  | .sbcReg o => Sys2Proof.Machine.execSbcReg o s
  | .sbcRsr o => Sys2Proof.Machine.execSbcRsr o s
  | .rscImm o => Sys2Proof.Machine.execRscImm o s
  | .rscReg o => Sys2Proof.Machine.execRscReg o s
  | .rscRsr o => Sys2Proof.Machine.execRscRsr o s
  | .tstImm o => Sys2Proof.Machine.execTstImm o s
  | .tstReg o => Sys2Proof.Machine.execTstReg o s
  | .tstRsr o => Sys2Proof.Machine.execTstRsr o s
  | .teqImm o => Sys2Proof.Machine.execTeqImm o s
  | .teqReg o => Sys2Proof.Machine.execTeqReg o s
  | .teqRsr o => Sys2Proof.Machine.execTeqRsr o s
  | .cmpImm o => Sys2Proof.Machine.execCmpImm o s
  | .cmpReg o => Sys2Proof.Machine.execCmpReg o s
  | .cmpRsr o => Sys2Proof.Machine.execCmpRsr o s
  | .cmnImm o => Sys2Proof.Machine.execCmnImm o s
  | .cmnReg o => Sys2Proof.Machine.execCmnReg o s
  | .cmnRsr o => Sys2Proof.Machine.execCmnRsr o s
  | .orrImm o => Sys2Proof.Machine.execOrrImm o s
  | .orrReg o => Sys2Proof.Machine.execOrrReg o s
  | .orrRsr o => Sys2Proof.Machine.execOrrRsr o s
  | .movImm o => Sys2Proof.Machine.execMovImm o s
  | .movReg o => Sys2Proof.Machine.execMovReg o s
  | .rrx o => Sys2Proof.Machine.execRrx o s
  | .lslImm o => Sys2Proof.Machine.execLslImm o s
  | .lsrImm o => Sys2Proof.Machine.execLsrImm o s
  | .asrImm o => Sys2Proof.Machine.execAsrImm o s
  | .rorImm o => Sys2Proof.Machine.execRorImm o s
  | .lslReg o => Sys2Proof.Machine.execLslReg o s
  | .lsrReg o => Sys2Proof.Machine.execLsrReg o s
  | .asrReg o => Sys2Proof.Machine.execAsrReg o s
  | .rorReg o => Sys2Proof.Machine.execRorReg o s
  | .bicImm o => Sys2Proof.Machine.execBicImm o s
  | .bicReg o => Sys2Proof.Machine.execBicReg o s
  | .bicRsr o => Sys2Proof.Machine.execBicRsr o s
  | .mvnImm o => Sys2Proof.Machine.execMvnImm o s
  | .mvnReg o => Sys2Proof.Machine.execMvnReg o s
  | .mvnRsr o => Sys2Proof.Machine.execMvnRsr o s
  | .strtImm o => Sys2Proof.Machine.execStrtImm o s
  | .strtReg o => Sys2Proof.Machine.execStrtReg o s
  | .strImm o => Sys2Proof.Machine.execStrImm o s
  | .strReg o => Sys2Proof.Machine.execStrReg o s
  | .ldrtImm o => Sys2Proof.Machine.execLdrtImm o s
  | .ldrtReg o => Sys2Proof.Machine.execLdrtReg o s
  | .ldrImm o => Sys2Proof.Machine.execLdrImm o s
  | .ldrReg o => Sys2Proof.Machine.execLdrReg o s
  | .strbtImm o => Sys2Proof.Machine.execStrbtImm o s
  | .strbtReg o => Sys2Proof.Machine.execStrbtReg o s
  | .strbImm o => Sys2Proof.Machine.execStrbImm o s
  | .strbReg o => Sys2Proof.Machine.execStrbReg o s
  | .ldrbtImm o => Sys2Proof.Machine.execLdrbtImm o s
  | .ldrbtReg o => Sys2Proof.Machine.execLdrbtReg o s
  | .ldrbImm o => Sys2Proof.Machine.execLdrbImm o s
  | .ldrbReg o => Sys2Proof.Machine.execLdrbReg o s
  | .parallelAddSub w => Sys2Proof.Machine.execParallelAddSub w s
  | .pkh w => Sys2Proof.Machine.execPkh w s
  | .sxtb16 o => Sys2Proof.Machine.execSxtb16 o s
  | .sxtab16 o => Sys2Proof.Machine.execSxtab16 o s
  | .sxtb o => Sys2Proof.Machine.execSxtb o s
  | .sxtab o => Sys2Proof.Machine.execSxtab o s
  | .sxth o => Sys2Proof.Machine.execSxth o s
  | .sxtah o => Sys2Proof.Machine.execSxtah o s
  | .uxtb16 o => Sys2Proof.Machine.execUxtb16 o s
  | .uxtab16 o => Sys2Proof.Machine.execUxtab16 o s
  | .uxtb o => Sys2Proof.Machine.execUxtb o s
  | .uxtab o => Sys2Proof.Machine.execUxtab o s
  | .uxth o => Sys2Proof.Machine.execUxth o s
  | .uxtah o => Sys2Proof.Machine.execUxtah o s
  | .sel w => Sys2Proof.Machine.execSel w s
  | .ssat16 w => Sys2Proof.Machine.execSsat16 w s
  | .ssat w => Sys2Proof.Machine.execSsat w s
  | .rev o => Sys2Proof.Machine.execRev o s
  | .rev16 o => Sys2Proof.Machine.execRev16 o s
  | .usat16 w => Sys2Proof.Machine.execUsat16 w s
  | .usat w => Sys2Proof.Machine.execUsat w s
  | .rbit w => Sys2Proof.Machine.execRbit w s
  | .revsh o => Sys2Proof.Machine.execRevsh o s
  | .signedMultiply w => Sys2Proof.Machine.execSignedMultiply w s
  | .usad8 w => Sys2Proof.Machine.execUsad8 w s
  | .sbfx o => Sys2Proof.Machine.execSbfx o s
  | .bfc o => Sys2Proof.Machine.execBfc o s
  | .bfi o => Sys2Proof.Machine.execBfi o s
  | .udf o => Sys2Proof.Machine.execUdf o s
  | .ubfx o => Sys2Proof.Machine.execUbfx o s
  | .ldmExcReturn o => Sys2Proof.Machine.execLdmExcReturn o s
  | .ldmUser o => Sys2Proof.Machine.execLdmUser o s
  | .stmUser o => Sys2Proof.Machine.execStmUser o s
  | .stmda o => Sys2Proof.Machine.execStmda o s
  | .ldmda o => Sys2Proof.Machine.execLdmda o s
  | .stm o => Sys2Proof.Machine.execStm o s
  | .ldm o => Sys2Proof.Machine.execLdm o s
  | .stmdb o => Sys2Proof.Machine.execStmdb o s
  | .ldmdb o => Sys2Proof.Machine.execLdmdb o s
  | .stmib o => Sys2Proof.Machine.execStmib o s
  | .ldmib o => Sys2Proof.Machine.execLdmib o s
  | .b o => Sys2Proof.Machine.execB o s
  | .bl o => Sys2Proof.Machine.execBl o s
  | .undefCoproc00000 w => Sys2Proof.Machine.execUndefCoproc00000 w s
  | .svc o => Sys2Proof.Machine.execSvc o s
  | .vfpLoadStore w => Sys2Proof.Machine.execVfpLoadStore w s
  | .vfpData w => Sys2Proof.Machine.execVfpData w s
  | .mcrP15 o => Sys2Proof.Machine.execMcrP15 o s
  | .mrcP15 o => Sys2Proof.Machine.execMrcP15 o s
  | .mcrr o => Sys2Proof.Machine.execMcrr o s
  | .stc o => Sys2Proof.Machine.execStc o s
  | .cdp o => Sys2Proof.Machine.execCdp o s
  | .mcrOther o => Sys2Proof.Machine.execMcrOther o s
  | .undefAnyOther w => Sys2Proof.Machine.execUndefAnyOther w s

end Sys2Proof.Machine
end

