-- ==== Sys2Proof/Machine/Interrupts.lean ====
section
/-! DEFINITION. The interrupts (R525, R534, R535, R540, R541) and the end of a WFI wait (R467). -/

namespace Sys2Proof.Machine

/-- R534, R535, R525: an interrupt is taken between two instructions, so the PC is the next instruction's address; with
SCTLR.VE = 1 its vector is implementation defined and the core halts. -/
def takeInterrupt (kind : ExcKind) (s : State) : Out :=
  if bit s.cp15.sctlr 24 then .fault (.notImplemented .vectoredInterrupts) else takeException kind (s.pc + 4) s

/-- R541: the interrupt accepted at a boundary, FIQ before IRQ; its latch is cleared. -/
def acceptInterrupt (s : State) : Option Out :=
  if s.fiqPending && !psrF s.cpsr then some (takeInterrupt .fiq { s with fiqPending := false })
  else if s.irqPending && !psrI s.cpsr then some (takeInterrupt .irq { s with irqPending := false })
  else none

/-- What the start of a step decides about a WFI wait. -/
inductive Wake where
  | running (s : State)
  | waits (s : State)

/-- R467: a pending interrupt, masked or not, ends the wait; so may nothing at all (log entry 21). -/
def wake (s : State) : Wake :=
  if !s.waiting then .running s
  else if s.irqPending || s.fiqPending then .running { s with waiting := false }
  else if Config.spuriousWake s.draws then .running { s with waiting := false, draws := s.draws + 1 }
  else .waits { s with draws := s.draws + 1 }

end Sys2Proof.Machine
end

