-- ==== Sys2Proof/Machine/Cycle.lean ====
section
/-! DEFINITION. One step of the core (R14), and the placing of an instruction where the next step fetches it. -/

namespace Sys2Proof.Machine

/-- R105: after a step the next one draws its own free bytes at the volatile addresses (log entry 6). -/
def State.ticked (s : State) : State := if s.params.volatile = [] then s else { s with draws := s.draws + 1 }

/-- The outcome with its next state ticked. -/
def Out.ticked : Out → Out
  | .next t => .next t.ticked
  | .fault f => .fault f
  | .refused r => .refused r

/-- R14 steps 2 to 5: fetch at the PC, decode, execute; a fault of the fetch is a prefetch abort (R533). -/
def runFetched (s : State) : Out :=
  match fetchWord s with
  | .ok w t => exec (decode w) t
  | .exc e t => raise e t
  | .halt f => .fault f

/-- R14 steps 2 to 5, R105. -/
def fetchAndExecute (s : State) : Out := Out.ticked (runFetched s)

/-- R14: an accepted interrupt is the whole step; otherwise the step is an instruction. -/
def boundary (s : State) : Out :=
  match acceptInterrupt s with
  | some out => out
  | none => fetchAndExecute s

/-- R14, R5, R467: a halted core takes no step (log entry 7), a waiting one may go on waiting. -/
def cycle (s : State) : Out :=
  match s.halted with
  | some f => .fault f
  | none =>
    match wake s with
    | .waits t => .next t
    | .running t => boundary t

/-- The state that is neither halted nor waiting and in which no interrupt is about to be taken. -/
def State.ready (s : State) : State :=
  { s with
    halted := none
    waiting := false
    fiqPending := s.fiqPending && psrF s.cpsr
    irqPending := s.irqPending && psrI s.cpsr }

/-- The state with the MMU and the alignment check off (SCTLR bits 1:0), in which every address is its own physical address,
and no volatile address. -/
def State.untranslated (s : State) : State :=
  { s with cp15 := { s.cp15 with sctlr := s.cp15.sctlr &&& 0xFFFFFFFC }, params := { s.params with volatile := [] } }

/-- The physical address of the next fetch, none where it would abort or halt. -/
def State.fetchAddress (s : State) : Option Word :=
  match s.translate s.pc fetchAccess with
  | .pa a => some a
  | _ => none

/-- Whether the next fetch reads the word. -/
def State.fetches (s : State) (w : Word) : Bool :=
  match fetchWord s with
  | .ok v _ => v == w
  | _ => false

/-- The state whose next fetch reads the word `w`: stored at the translated PC, or, where the translation does not admit
the fetch or the store changes it, at the PC itself with the MMU off (log entry 22). -/
def State.placeWord (s : State) (w : Word) : State :=
  let plain := s.untranslated.physWrite s.pc .word w
  match s.fetchAddress with
  | some pa => if (s.physWrite pa .word w).fetches w then s.physWrite pa .word w else plain
  | none => plain

end Sys2Proof.Machine
end

