-- ==== Sys2Proof/Machine/Step.lean ====
section
/-! DEFINITION. The step of the core (R14) and the placing of its next instruction. -/

namespace Sys2Proof.Machine

/-- R14: one step. -/
def step (s : State) : Host.Outcome State Fault Refusal := cycle s

/-- `s` with the instruction whose bits are `w` stored where the next step fetches, and ready to fetch it (log entry 22). -/
def State.withFetchWord (s : State) (nbits w : Nat) : State := s.ready.placeWord (BitVec.ofNat 32 (w % 2 ^ nbits))

end Sys2Proof.Machine
end

