-- ==== Sys2Proof/Machine/Classes.lean ====
section
/-! DEFINITION. Classes of instructions that the spec's whole-machine rules speak of. -/

namespace Sys2Proof

/-- The position of the instruction's row in the opcode table. -/
def Instr.row : Instr → Nat
  | .cps _ => 0
  | .setend _ => 1
  | .simdDataProcessing _ => 2
  | .simdLoadStore _ => 3
  | .memHintImm _ => 4
  | .pliImm _ => 5
  | .unpredPldwImm _ => 6
  | .pldwImm _ => 7
  | .pldImm _ => 8
  | .unpredUncond1010011 _ => 9
  | .clrex _ => 10
  | .dsb _ => 11
  | .dmb _ => 12
  | .isb _ => 13
  | .unpredUncond1010111 _ => 14
  | .unpredUncond1011x11 _ => 15
  | .memHintReg _ => 16
  | .pliReg _ => 17
  | .pldwReg _ => 18
  | .pldReg _ => 19
  | .unpredUncond11xxx11 _ => 20
  | .undefUncondMisc _ => 21
  | .srs _ => 22
  | .rfe _ => 23
  | .blxImm _ => 24
  | .undefUncond1100000 _ => 25
  | .vfpUncondLoadStore _ => 26
  | .vfpUncondData _ => 27
  | .mcrr2 _ => 28
  | .stc2 _ => 29
  | .cdp2 _ => 30
  | .mcr2 _ => 31
  | .undefUncondOther _ => 32
  | .mrsMsrBanked _ => 33
  | .mrs _ => 34
  | .msrReg _ => 35
  | .bx _ => 36
  | .clz _ => 37
  | .bxj _ => 38
  | .blxReg _ => 39
  | .qadd _ => 40
  | .eret _ => 41
  | .bkpt _ => 42
  | .hvc _ => 43
  | .smc _ => 44
  | .halfwordMultiply _ => 45
  | .undefMisc _ => 46
  | .mul _ => 47
  | .mla _ => 48
  | .umaal _ => 49
  | .undefMultiply0101 _ => 50
  | .mls _ => 51
  | .undefMultiply0111 _ => 52
  | .umull _ => 53
  | .umlal _ => 54
  | .smull _ => 55
  | .smlal _ => 56
  | .swp _ => 57
  | .strex _ => 58
  | .ldrex _ => 59
  | .exclusiveWidths _ => 60
  | .undefSync _ => 61
  | .unpredLdrdStrd _ => 62
  | .strhtImm _ => 63
  | .strhtReg _ => 64
  | .strhImm _ => 65
  | .strhReg _ => 66
  | .ldrhtImm _ => 67
  | .ldrhtReg _ => 68
  | .ldrhImm _ => 69
  | .ldrhReg _ => 70
  | .ldrdImm _ => 71
  | .ldrdReg _ => 72
  | .ldrsbtImm _ => 73
  | .ldrsbtReg _ => 74
  | .ldrsbImm _ => 75
  | .ldrsbReg _ => 76
  | .strdImm _ => 77
  | .strdReg _ => 78
  | .ldrshtImm _ => 79
  | .ldrshtReg _ => 80
  | .ldrshImm _ => 81
  | .ldrshReg _ => 82
  | .movw _ => 83
  | .movt _ => 84
  | .nop _ => 85
  | .yield _ => 86
  | .wfe _ => 87
  | .wfi _ => 88
  | .sev _ => 89
  | .dbg _ => 90
  | .hintUnallocated _ => 91
  | .unpredMsrImm _ => 92
  | .msrImm _ => 93
  | .andImm _ => 94
  | .andReg _ => 95
  | .andRsr _ => 96
  | .eorImm _ => 97
  | .eorReg _ => 98
  | .eorRsr _ => 99
  | .subImm _ => 100
  | .subReg _ => 101
  | .subRsr _ => 102
  | .rsbImm _ => 103
  | .rsbReg _ => 104
  | .rsbRsr _ => 105
  | .addImm _ => 106
  | .addReg _ => 107
  | .addRsr _ => 108
  | .adcImm _ => 109
  | .adcReg _ => 110
  | .adcRsr _ => 111
  | .sbcImm _ => 112
  | .sbcReg _ => 113
  | .sbcRsr _ => 114
  | .rscImm _ => 115
  | .rscReg _ => 116
  | .rscRsr _ => 117
  | .tstImm _ => 118
  | .tstReg _ => 119
  | .tstRsr _ => 120
  | .teqImm _ => 121
  | .teqReg _ => 122
  | .teqRsr _ => 123
  | .cmpImm _ => 124
  | .cmpReg _ => 125
  | .cmpRsr _ => 126
  | .cmnImm _ => 127
  | .cmnReg _ => 128
  | .cmnRsr _ => 129
  | .orrImm _ => 130
  | .orrReg _ => 131
  | .orrRsr _ => 132
  | .movImm _ => 133
  | .movReg _ => 134
  | .rrx _ => 135
  | .lslImm _ => 136
  | .lsrImm _ => 137
  | .asrImm _ => 138
  | .rorImm _ => 139
  | .lslReg _ => 140
  | .lsrReg _ => 141
  | .asrReg _ => 142
  | .rorReg _ => 143
  | .bicImm _ => 144
  | .bicReg _ => 145
  | .bicRsr _ => 146
  | .mvnImm _ => 147
  | .mvnReg _ => 148
  | .mvnRsr _ => 149
  | .strtImm _ => 150
  | .strtReg _ => 151
  | .strImm _ => 152
  | .strReg _ => 153
  | .ldrtImm _ => 154
  | .ldrtReg _ => 155
  | .ldrImm _ => 156
  | .ldrReg _ => 157
  | .strbtImm _ => 158
  | .strbtReg _ => 159
  | .strbImm _ => 160
  | .strbReg _ => 161
  | .ldrbtImm _ => 162
  | .ldrbtReg _ => 163
  | .ldrbImm _ => 164
  | .ldrbReg _ => 165
  | .parallelAddSub _ => 166
  | .pkh _ => 167
  | .sxtb16 _ => 168
  | .sxtab16 _ => 169
  | .sxtb _ => 170
  | .sxtab _ => 171
  | .sxth _ => 172
  | .sxtah _ => 173
  | .uxtb16 _ => 174
  | .uxtab16 _ => 175
  | .uxtb _ => 176
  | .uxtab _ => 177
  | .uxth _ => 178
  | .uxtah _ => 179
  | .sel _ => 180
  | .ssat16 _ => 181
  | .ssat _ => 182
  | .rev _ => 183
  | .rev16 _ => 184
  | .usat16 _ => 185
  | .usat _ => 186
  | .rbit _ => 187
  | .revsh _ => 188
  | .signedMultiply _ => 189
  | .usad8 _ => 190
  | .sbfx _ => 191
  | .bfc _ => 192
  | .bfi _ => 193
  | .udf _ => 194
  | .ubfx _ => 195
  | .ldmExcReturn _ => 196
  | .ldmUser _ => 197
  | .stmUser _ => 198
  | .stmda _ => 199
  | .ldmda _ => 200
  | .stm _ => 201
  | .ldm _ => 202
  | .stmdb _ => 203
  | .ldmdb _ => 204
  | .stmib _ => 205
  | .ldmib _ => 206
  | .b _ => 207
  | .bl _ => 208
  | .undefCoproc00000 _ => 209
  | .svc _ => 210
  | .vfpLoadStore _ => 211
  | .vfpData _ => 212
  | .mcrP15 _ => 213
  | .mrcP15 _ => 214
  | .mcrr _ => 215
  | .stc _ => 216
  | .cdp _ => 217
  | .mcrOther _ => 218
  | .undefAnyOther _ => 219

/-- R13: the condition field of an instruction that evaluates it; none for the unconditional space and for the rows that
halt or raise whatever it holds (R161). -/
def Instr.condition : Instr → Option Cond
  | .cps _ => none
  | .setend _ => none
  | .simdDataProcessing _ => none
  | .simdLoadStore _ => none
  | .memHintImm _ => none
  | .pliImm _ => none
  | .unpredPldwImm _ => none
  | .pldwImm _ => none
  | .pldImm _ => none
  | .unpredUncond1010011 _ => none
  | .clrex _ => none
  | .dsb _ => none
  | .dmb _ => none
  | .isb _ => none
  | .unpredUncond1010111 _ => none
  | .unpredUncond1011x11 _ => none
  | .memHintReg _ => none
  | .pliReg _ => none
  | .pldwReg _ => none
  | .pldReg _ => none
  | .unpredUncond11xxx11 _ => none
  | .undefUncondMisc _ => none
  | .srs _ => none
  | .rfe _ => none
  | .blxImm _ => none
  | .undefUncond1100000 _ => none
  | .vfpUncondLoadStore _ => none
  | .vfpUncondData _ => none
  | .mcrr2 _ => none
  | .stc2 _ => none
  | .cdp2 _ => none
  | .mcr2 _ => none
  | .undefUncondOther _ => none
  | .mrsMsrBanked _ => none
  | .mrs o => some o.cond
  | .msrReg o => some o.cond
  | .bx o => some o.cond
  | .clz o => some o.cond
  | .bxj o => some o.cond
  | .blxReg o => some o.cond
  | .qadd _ => none
  | .eret _ => none
  | .bkpt _ => none
  | .hvc _ => none
  | .smc _ => none
  | .halfwordMultiply _ => none
  | .undefMisc _ => none
  | .mul o => some o.cond
  | .mla o => some o.cond
  | .umaal _ => none
  | .undefMultiply0101 _ => none
  | .mls o => some o.cond
  | .undefMultiply0111 _ => none
  | .umull o => some o.cond
  | .umlal o => some o.cond
  | .smull o => some o.cond
  | .smlal o => some o.cond
  | .swp _ => none
  | .strex o => some o.cond
  | .ldrex o => some o.cond
  | .exclusiveWidths _ => none
  | .undefSync _ => none
  | .unpredLdrdStrd _ => none
  | .strhtImm o => some o.cond
  | .strhtReg o => some o.cond
  | .strhImm o => some o.cond
  | .strhReg o => some o.cond
  | .ldrhtImm o => some o.cond
  | .ldrhtReg o => some o.cond
  | .ldrhImm o => some o.cond
  | .ldrhReg o => some o.cond
  | .ldrdImm o => some o.cond
  | .ldrdReg o => some o.cond
  | .ldrsbtImm o => some o.cond
  | .ldrsbtReg o => some o.cond
  | .ldrsbImm o => some o.cond
  | .ldrsbReg o => some o.cond
  | .strdImm o => some o.cond
  | .strdReg o => some o.cond
  | .ldrshtImm o => some o.cond
  | .ldrshtReg o => some o.cond
  | .ldrshImm o => some o.cond
  | .ldrshReg o => some o.cond
  | .movw o => some o.cond
  | .movt o => some o.cond
  | .nop o => some o.cond
  | .yield o => some o.cond
  | .wfe o => some o.cond
  | .wfi o => some o.cond
  | .sev o => some o.cond
  | .dbg o => some o.cond
  | .hintUnallocated o => some o.cond
  | .unpredMsrImm _ => none
  | .msrImm o => some o.cond
  | .andImm o => some o.cond
  | .andReg o => some o.cond
  | .andRsr o => some o.cond
  | .eorImm o => some o.cond
  | .eorReg o => some o.cond
  | .eorRsr o => some o.cond
  | .subImm o => some o.cond
  | .subReg o => some o.cond
  | .subRsr o => some o.cond
  | .rsbImm o => some o.cond
  | .rsbReg o => some o.cond
  | .rsbRsr o => some o.cond
  | .addImm o => some o.cond
  | .addReg o => some o.cond
  | .addRsr o => some o.cond
  | .adcImm o => some o.cond
  | .adcReg o => some o.cond
  | .adcRsr o => some o.cond
  | .sbcImm o => some o.cond
  | .sbcReg o => some o.cond
  | .sbcRsr o => some o.cond
  | .rscImm o => some o.cond
  | .rscReg o => some o.cond
  | .rscRsr o => some o.cond
  | .tstImm o => some o.cond
  | .tstReg o => some o.cond
  | .tstRsr o => some o.cond
  | .teqImm o => some o.cond
  | .teqReg o => some o.cond
  | .teqRsr o => some o.cond
  | .cmpImm o => some o.cond
  | .cmpReg o => some o.cond
  | .cmpRsr o => some o.cond
  | .cmnImm o => some o.cond
  | .cmnReg o => some o.cond
  | .cmnRsr o => some o.cond
  | .orrImm o => some o.cond
  | .orrReg o => some o.cond
  | .orrRsr o => some o.cond
  | .movImm o => some o.cond
  | .movReg o => some o.cond
  | .rrx o => some o.cond
  | .lslImm o => some o.cond
  | .lsrImm o => some o.cond
  | .asrImm o => some o.cond
  | .rorImm o => some o.cond
  | .lslReg o => some o.cond
  | .lsrReg o => some o.cond
  | .asrReg o => some o.cond
  | .rorReg o => some o.cond
  | .bicImm o => some o.cond
  | .bicReg o => some o.cond
  | .bicRsr o => some o.cond
  | .mvnImm o => some o.cond
  | .mvnReg o => some o.cond
  | .mvnRsr o => some o.cond
  | .strtImm o => some o.cond
  | .strtReg o => some o.cond
  | .strImm o => some o.cond
  | .strReg o => some o.cond
  | .ldrtImm o => some o.cond
  | .ldrtReg o => some o.cond
  | .ldrImm o => some o.cond
  | .ldrReg o => some o.cond
  | .strbtImm o => some o.cond
  | .strbtReg o => some o.cond
  | .strbImm o => some o.cond
  | .strbReg o => some o.cond
  | .ldrbtImm o => some o.cond
  | .ldrbtReg o => some o.cond
  | .ldrbImm o => some o.cond
  | .ldrbReg o => some o.cond
  | .parallelAddSub _ => none
  | .pkh _ => none
  | .sxtb16 o => some o.cond
  | .sxtab16 o => some o.cond
  | .sxtb o => some o.cond
  | .sxtab o => some o.cond
  | .sxth o => some o.cond
  | .sxtah o => some o.cond
  | .uxtb16 o => some o.cond
  | .uxtab16 o => some o.cond
  | .uxtb o => some o.cond
  | .uxtab o => some o.cond
  | .uxth o => some o.cond
  | .uxtah o => some o.cond
  | .sel _ => none
  | .ssat16 _ => none
  | .ssat _ => none
  | .rev o => some o.cond
  | .rev16 o => some o.cond
  | .usat16 _ => none
  | .usat _ => none
  | .rbit _ => none
  | .revsh o => some o.cond
  | .signedMultiply _ => none
  | .usad8 _ => none
  | .sbfx o => some o.cond
  | .bfc o => some o.cond
  | .bfi o => some o.cond
  | .udf _ => none
  | .ubfx o => some o.cond
  | .ldmExcReturn o => some o.cond
  | .ldmUser o => some o.cond
  | .stmUser o => some o.cond
  | .stmda o => some o.cond
  | .ldmda o => some o.cond
  | .stm o => some o.cond
  | .ldm o => some o.cond
  | .stmdb o => some o.cond
  | .ldmdb o => some o.cond
  | .stmib o => some o.cond
  | .ldmib o => some o.cond
  | .b o => some o.cond
  | .bl o => some o.cond
  | .undefCoproc00000 _ => none
  | .svc o => some o.cond
  | .vfpLoadStore _ => none
  | .vfpData _ => none
  | .mcrP15 o => some o.cond
  | .mrcP15 o => some o.cond
  | .mcrr o => some o.cond
  | .stc o => some o.cond
  | .cdp o => some o.cond
  | .mcrOther o => some o.cond
  | .undefAnyOther _ => none

/-- R104: the instructions that may write memory. -/
def Instr.mayStore : Instr → Bool
  | .strex _ | .strhtImm _ | .strhtReg _ | .strhImm _ | .strhReg _ | .strdImm _
  | .strdReg _ | .strtImm _ | .strtReg _ | .strImm _ | .strReg _ | .strbtImm _
  | .strbtReg _ | .strbImm _ | .strbReg _ | .stmUser _ | .stmda _ | .stm _
  | .stmdb _ | .stmib _ => true
  | _ => false

/-- R51: the instructions that change the exclusive monitor. -/
def Instr.mayChangeMonitor : Instr → Bool
  | .ldrex _ | .strex _ | .clrex _ => true
  | _ => false

/-- R36, R48: the instructions that write status register fields other than N, Z, C and V by name. -/
def Instr.writesPsr : Instr → Bool
  | .msrReg _ | .msrImm _ | .cps _ | .setend _ => true
  | _ => false

/-- R527: the forms that return from an exception: S = 1 with Rd = 15, and LDM (exception return). -/
def Instr.isExceptionReturn : Instr → Bool
  | .andImm o => o.s && o.rd == pcReg
  | .andReg o => o.s && o.rd == pcReg
  | .eorImm o => o.s && o.rd == pcReg
  | .eorReg o => o.s && o.rd == pcReg
  | .subImm o => o.s && o.rd == pcReg
  | .subReg o => o.s && o.rd == pcReg
  | .rsbImm o => o.s && o.rd == pcReg
  | .rsbReg o => o.s && o.rd == pcReg
  | .addImm o => o.s && o.rd == pcReg
  | .addReg o => o.s && o.rd == pcReg
  | .adcImm o => o.s && o.rd == pcReg
  | .adcReg o => o.s && o.rd == pcReg
  | .sbcImm o => o.s && o.rd == pcReg
  | .sbcReg o => o.s && o.rd == pcReg
  | .rscImm o => o.s && o.rd == pcReg
  | .rscReg o => o.s && o.rd == pcReg
  | .orrImm o => o.s && o.rd == pcReg
  | .orrReg o => o.s && o.rd == pcReg
  | .bicImm o => o.s && o.rd == pcReg
  | .bicReg o => o.s && o.rd == pcReg
  | .movImm o => o.s && o.rd == pcReg
  | .movReg o => o.s && o.rd == pcReg
  | .rrx o => o.s && o.rd == pcReg
  | .lslImm o => o.s && o.rd == pcReg
  | .lsrImm o => o.s && o.rd == pcReg
  | .asrImm o => o.s && o.rd == pcReg
  | .rorImm o => o.s && o.rd == pcReg
  | .mvnImm o => o.s && o.rd == pcReg
  | .mvnReg o => o.s && o.rd == pcReg
  | .ldmExcReturn _ => true
  | _ => false

/-- R453: the combinations of imod, M, A, I, F and mode that CPS calls UNPREDICTABLE. -/
def CpsOp.inconsistent (o : CpsOp) : Bool :=
  (o.mode != 0 && !o.m) || (o.imod.getLsbD 1 && !(o.a || o.i || o.f)) || (!o.imod.getLsbD 1 && (o.a || o.i || o.f))
    || o.imod == 1 || (o.imod == 0 && !o.m)

/-- R416: the base register is in the list and some lower register is too. -/
def BlockOp.baseNotLowest (o : BlockOp) : Bool :=
  o.registers.getLsbD o.rn.toNat && (List.range o.rn.toNat).any fun i => o.registers.getLsbD i

/-- R190: the encoding is UNPREDICTABLE: a should-be field does not hold its value, the row is an UNPREDICTABLE row of its
table, or the rule of the instruction names its combination of registers or fields. -/
def Instr.unpredictable : Instr → Bool
  | .cps o => o.sbz15_9 != 0 || o.inconsistent
  | .setend o => o.sbz15_10 != 0 || o.sbz8 != 0 || o.sbz3_0 != 0
  | .simdDataProcessing _ => false
  | .simdLoadStore _ => false
  | .memHintImm _ => false
  | .pliImm o => o.sbo15_12 != 15
  | .unpredPldwImm _ => true
  | .pldwImm o => o.sbo15_12 != 15
  | .pldImm o => o.sbo15_12 != 15
  | .unpredUncond1010011 _ => true
  | .clrex o => o.sbo19_12 != 255 || o.sbz11_8 != 0 || o.sbo3_0 != 15
  | .dsb o => o.sbo19_12 != 255 || o.sbz11_8 != 0
  | .dmb o => o.sbo19_12 != 255 || o.sbz11_8 != 0
  | .isb o => o.sbo19_12 != 255 || o.sbz11_8 != 0
  | .unpredUncond1010111 _ => true
  | .unpredUncond1011x11 _ => true
  | .memHintReg _ => false
  | .pliReg o => o.sbo15_12 != 15 || o.rm == pcReg
  | .pldwReg o => o.sbo15_12 != 15 || o.rm == pcReg
  | .pldReg o => o.sbo15_12 != 15 || o.rm == pcReg
  | .unpredUncond11xxx11 _ => true
  | .undefUncondMisc _ => false
  | .srs _ => false
  | .rfe _ => false
  | .blxImm _ => false
  | .undefUncond1100000 _ => false
  | .vfpUncondLoadStore _ => false
  | .vfpUncondData _ => false
  | .mcrr2 _ => false
  | .stc2 _ => false
  | .cdp2 _ => false
  | .mcr2 _ => false
  | .undefUncondOther _ => false
  | .mrsMsrBanked _ => false
  | .mrs o => o.sbo19_16 != 15 || o.sbz11_10 != 0 || o.sbz8 != 0 || o.sbz3_0 != 0 || o.rd == pcReg
  | .msrReg o => o.sbo15_12 != 15 || o.sbz11_10 != 0 || o.sbz8 != 0 || o.rn == pcReg || o.mask == 0
  | .bx o => o.sbo19_8 != 4095
  | .clz o => o.sbo19_16 != 15 || o.sbo11_8 != 15 || o.rd == pcReg || o.rm == pcReg
  | .bxj o => o.sbo19_8 != 4095 || o.rm == pcReg
  | .blxReg o => o.sbo19_8 != 4095 || o.rm == pcReg
  | .qadd o => o.sbz11_8 != 0
  | .eret _ => false
  | .bkpt _ => false
  | .hvc _ => false
  | .smc o => o.sbz19_8 != 0
  | .halfwordMultiply _ => false
  | .undefMisc _ => false
  | .mul o => o.sbz15_12 != 0 || o.rd == pcReg || o.rn == pcReg || o.rm == pcReg
  | .mla o => o.rd == pcReg || o.rn == pcReg || o.rm == pcReg || o.ra == pcReg
  | .umaal _ => false
  | .undefMultiply0101 _ => false
  | .mls o => o.rd == pcReg || o.rn == pcReg || o.rm == pcReg || o.ra == pcReg
  | .undefMultiply0111 _ => false
  | .umull o => o.rdHi == pcReg || o.rdLo == pcReg || o.rn == pcReg || o.rm == pcReg || o.rdHi == o.rdLo
  | .umlal o => o.rdHi == pcReg || o.rdLo == pcReg || o.rn == pcReg || o.rm == pcReg || o.rdHi == o.rdLo
  | .smull o => o.rdHi == pcReg || o.rdLo == pcReg || o.rn == pcReg || o.rm == pcReg || o.rdHi == o.rdLo
  | .smlal o => o.rdHi == pcReg || o.rdLo == pcReg || o.rn == pcReg || o.rm == pcReg || o.rdHi == o.rdLo
  | .swp o => o.sbz11_8 != 0
  | .strex o => o.sbo11_8 != 15 || o.rd == pcReg || o.rt == pcReg || o.rn == pcReg || o.rd == o.rn || o.rd == o.rt
  | .ldrex o => o.sbo11_8 != 15 || o.sbo3_0 != 15 || o.rt == pcReg || o.rn == pcReg
  | .exclusiveWidths _ => false
  | .undefSync _ => false
  | .unpredLdrdStrd _ => true
  | .strhtImm o => o.rn == pcReg || o.rn == o.rt || o.rt == pcReg
  | .strhtReg o => o.sbz11_8 != 0 || o.rm == pcReg || o.rn == pcReg || o.rn == o.rt || o.rt == pcReg
  | .strhImm o => o.rt == pcReg || (!o.p || o.w) && (o.rn == pcReg || o.rn == o.rt)
  | .strhReg o => o.sbz11_8 != 0 || o.rm == pcReg || o.rt == pcReg || (!o.p || o.w) && (o.rn == pcReg || o.rn == o.rt)
  | .ldrhtImm o => o.rn == pcReg || o.rn == o.rt || o.rt == pcReg
  | .ldrhtReg o => o.sbz11_8 != 0 || o.rm == pcReg || o.rn == pcReg || o.rn == o.rt || o.rt == pcReg
  | .ldrhImm o => o.rt == pcReg || (!o.p || o.w) && (o.rn == pcReg || o.rn == o.rt)
  | .ldrhReg o => o.sbz11_8 != 0 || o.rm == pcReg || o.rt == pcReg || (!o.p || o.w) && (o.rn == pcReg || o.rn == o.rt)
  | .ldrdImm o => o.rt.getLsbD 0 || o.rt == lrReg || (!o.p || o.w) && (o.rn == o.rt || o.rn == o.rt + 1 || o.rn == pcReg)
  | .ldrdReg o => o.sbz11_8 != 0 || o.rm == pcReg || o.rm == o.rt || o.rm == o.rt + 1 || o.rt.getLsbD 0 || o.rt == lrReg || (!o.p || o.w) && (o.rn == o.rt || o.rn == o.rt + 1 || o.rn == pcReg)
  | .ldrsbtImm o => o.rn == pcReg || o.rn == o.rt || o.rt == pcReg
  | .ldrsbtReg o => o.sbz11_8 != 0 || o.rm == pcReg || o.rn == pcReg || o.rn == o.rt || o.rt == pcReg
  | .ldrsbImm o => o.rt == pcReg || (!o.p || o.w) && (o.rn == pcReg || o.rn == o.rt)
  | .ldrsbReg o => o.sbz11_8 != 0 || o.rm == pcReg || o.rt == pcReg || (!o.p || o.w) && (o.rn == pcReg || o.rn == o.rt)
  | .strdImm o => o.rt.getLsbD 0 || o.rt == lrReg || (!o.p || o.w) && (o.rn == o.rt || o.rn == o.rt + 1 || o.rn == pcReg)
  | .strdReg o => o.sbz11_8 != 0 || o.rm == pcReg || o.rt.getLsbD 0 || o.rt == lrReg || (!o.p || o.w) && (o.rn == o.rt || o.rn == o.rt + 1 || o.rn == pcReg)
  | .ldrshtImm o => o.rn == pcReg || o.rn == o.rt || o.rt == pcReg
  | .ldrshtReg o => o.sbz11_8 != 0 || o.rm == pcReg || o.rn == pcReg || o.rn == o.rt || o.rt == pcReg
  | .ldrshImm o => o.rt == pcReg || (!o.p || o.w) && (o.rn == pcReg || o.rn == o.rt)
  | .ldrshReg o => o.sbz11_8 != 0 || o.rm == pcReg || o.rt == pcReg || (!o.p || o.w) && (o.rn == pcReg || o.rn == o.rt)
  | .movw o => o.rd == pcReg
  | .movt o => o.rd == pcReg
  | .nop o => o.sbo15_12 != 15 || o.sbz11_8 != 0
  | .yield o => o.sbo15_12 != 15 || o.sbz11_8 != 0
  | .wfe o => o.sbo15_12 != 15 || o.sbz11_8 != 0
  | .wfi o => o.sbo15_12 != 15 || o.sbz11_8 != 0
  | .sev o => o.sbo15_12 != 15 || o.sbz11_8 != 0
  | .dbg o => o.sbo15_12 != 15 || o.sbz11_8 != 0
  | .hintUnallocated o => o.sbo15_12 != 15 || o.sbz11_8 != 0
  | .unpredMsrImm _ => true
  | .msrImm o => o.sbo15_12 != 15
  | .andImm _ => false
  | .andReg _ => false
  | .andRsr o => o.rd == pcReg || o.rn == pcReg || o.rm == pcReg || o.rs == pcReg
  | .eorImm _ => false
  | .eorReg _ => false
  | .eorRsr o => o.rd == pcReg || o.rn == pcReg || o.rm == pcReg || o.rs == pcReg
  | .subImm _ => false
  | .subReg _ => false
  | .subRsr o => o.rd == pcReg || o.rn == pcReg || o.rm == pcReg || o.rs == pcReg
  | .rsbImm _ => false
  | .rsbReg _ => false
  | .rsbRsr o => o.rd == pcReg || o.rn == pcReg || o.rm == pcReg || o.rs == pcReg
  | .addImm _ => false
  | .addReg _ => false
  | .addRsr o => o.rd == pcReg || o.rn == pcReg || o.rm == pcReg || o.rs == pcReg
  | .adcImm _ => false
  | .adcReg _ => false
  | .adcRsr o => o.rd == pcReg || o.rn == pcReg || o.rm == pcReg || o.rs == pcReg
  | .sbcImm _ => false
  | .sbcReg _ => false
  | .sbcRsr o => o.rd == pcReg || o.rn == pcReg || o.rm == pcReg || o.rs == pcReg
  | .rscImm _ => false
  | .rscReg _ => false
  | .rscRsr o => o.rd == pcReg || o.rn == pcReg || o.rm == pcReg || o.rs == pcReg
  | .tstImm o => o.sbz15_12 != 0
  | .tstReg o => o.sbz15_12 != 0
  | .tstRsr o => o.sbz15_12 != 0 || o.rn == pcReg || o.rm == pcReg || o.rs == pcReg
  | .teqImm o => o.sbz15_12 != 0
  | .teqReg o => o.sbz15_12 != 0
  | .teqRsr o => o.sbz15_12 != 0 || o.rn == pcReg || o.rm == pcReg || o.rs == pcReg
  | .cmpImm o => o.sbz15_12 != 0
  | .cmpReg o => o.sbz15_12 != 0
  | .cmpRsr o => o.sbz15_12 != 0 || o.rn == pcReg || o.rm == pcReg || o.rs == pcReg
  | .cmnImm o => o.sbz15_12 != 0
  | .cmnReg o => o.sbz15_12 != 0
  | .cmnRsr o => o.sbz15_12 != 0 || o.rn == pcReg || o.rm == pcReg || o.rs == pcReg
  | .orrImm _ => false
  | .orrReg _ => false
  | .orrRsr o => o.rd == pcReg || o.rn == pcReg || o.rm == pcReg || o.rs == pcReg
  | .movImm o => o.sbz19_16 != 0
  | .movReg o => o.sbz19_16 != 0
  | .rrx o => o.sbz19_16 != 0
  | .lslImm o => o.sbz19_16 != 0
  | .lsrImm o => o.sbz19_16 != 0
  | .asrImm o => o.sbz19_16 != 0
  | .rorImm o => o.sbz19_16 != 0
  | .lslReg o => o.sbz19_16 != 0 || o.rd == pcReg || o.rm == pcReg || o.rs == pcReg
  | .lsrReg o => o.sbz19_16 != 0 || o.rd == pcReg || o.rm == pcReg || o.rs == pcReg
  | .asrReg o => o.sbz19_16 != 0 || o.rd == pcReg || o.rm == pcReg || o.rs == pcReg
  | .rorReg o => o.sbz19_16 != 0 || o.rd == pcReg || o.rm == pcReg || o.rs == pcReg
  | .bicImm _ => false
  | .bicReg _ => false
  | .bicRsr o => o.rd == pcReg || o.rn == pcReg || o.rm == pcReg || o.rs == pcReg
  | .mvnImm o => o.sbz19_16 != 0
  | .mvnReg o => o.sbz19_16 != 0
  | .mvnRsr o => o.sbz19_16 != 0 || o.rd == pcReg || o.rm == pcReg || o.rs == pcReg
  | .strtImm o => o.rn == pcReg || o.rn == o.rt
  | .strtReg o => o.rm == pcReg || o.rn == pcReg || o.rn == o.rt
  | .strImm o => (!o.p || o.w) && (o.rn == pcReg || o.rn == o.rt)
  | .strReg o => o.rm == pcReg || (!o.p || o.w) && (o.rn == pcReg || o.rn == o.rt)
  | .ldrtImm o => o.rn == pcReg || o.rn == o.rt || o.rt == pcReg
  | .ldrtReg o => o.rm == pcReg || o.rn == pcReg || o.rn == o.rt || o.rt == pcReg
  | .ldrImm o => (!o.p || o.w) && (o.rn == pcReg || o.rn == o.rt)
  | .ldrReg o => o.rm == pcReg || (!o.p || o.w) && (o.rn == pcReg || o.rn == o.rt)
  | .strbtImm o => o.rn == pcReg || o.rn == o.rt || o.rt == pcReg
  | .strbtReg o => o.rm == pcReg || o.rn == pcReg || o.rn == o.rt || o.rt == pcReg
  | .strbImm o => o.rt == pcReg || (!o.p || o.w) && (o.rn == pcReg || o.rn == o.rt)
  | .strbReg o => o.rm == pcReg || o.rt == pcReg || (!o.p || o.w) && (o.rn == pcReg || o.rn == o.rt)
  | .ldrbtImm o => o.rn == pcReg || o.rn == o.rt || o.rt == pcReg
  | .ldrbtReg o => o.rm == pcReg || o.rn == pcReg || o.rn == o.rt || o.rt == pcReg
  | .ldrbImm o => o.rt == pcReg || (!o.p || o.w) && (o.rn == pcReg || o.rn == o.rt)
  | .ldrbReg o => o.rm == pcReg || o.rt == pcReg || (!o.p || o.w) && (o.rn == pcReg || o.rn == o.rt)
  | .parallelAddSub _ => false
  | .pkh _ => false
  | .sxtb16 o => o.sbz9_8 != 0 || o.rd == pcReg || o.rm == pcReg
  | .sxtab16 o => o.sbz9_8 != 0 || o.rd == pcReg || o.rm == pcReg
  | .sxtb o => o.sbz9_8 != 0 || o.rd == pcReg || o.rm == pcReg
  | .sxtab o => o.sbz9_8 != 0 || o.rd == pcReg || o.rm == pcReg
  | .sxth o => o.sbz9_8 != 0 || o.rd == pcReg || o.rm == pcReg
  | .sxtah o => o.sbz9_8 != 0 || o.rd == pcReg || o.rm == pcReg
  | .uxtb16 o => o.sbz9_8 != 0 || o.rd == pcReg || o.rm == pcReg
  | .uxtab16 o => o.sbz9_8 != 0 || o.rd == pcReg || o.rm == pcReg
  | .uxtb o => o.sbz9_8 != 0 || o.rd == pcReg || o.rm == pcReg
  | .uxtab o => o.sbz9_8 != 0 || o.rd == pcReg || o.rm == pcReg
  | .uxth o => o.sbz9_8 != 0 || o.rd == pcReg || o.rm == pcReg
  | .uxtah o => o.sbz9_8 != 0 || o.rd == pcReg || o.rm == pcReg
  | .sel _ => false
  | .ssat16 _ => false
  | .ssat _ => false
  | .rev o => o.sbo19_16 != 15 || o.sbo11_8 != 15 || o.rd == pcReg || o.rm == pcReg
  | .rev16 o => o.sbo19_16 != 15 || o.sbo11_8 != 15 || o.rd == pcReg || o.rm == pcReg
  | .usat16 _ => false
  | .usat _ => false
  | .rbit _ => false
  | .revsh o => o.sbo19_16 != 15 || o.sbo11_8 != 15 || o.rd == pcReg || o.rm == pcReg
  | .signedMultiply _ => false
  | .usad8 _ => false
  | .sbfx o => o.rd == pcReg || o.rn == pcReg || decide (32 ≤ o.lsb.toNat + o.widthm1.toNat)
  | .bfc o => o.rd == pcReg || decide (o.msb.toNat < o.lsb.toNat)
  | .bfi o => o.rd == pcReg || decide (o.msb.toNat < o.lsb.toNat)
  | .udf _ => false
  | .ubfx o => o.rd == pcReg || o.rn == pcReg || decide (32 ≤ o.lsb.toNat + o.widthm1.toNat)
  | .ldmExcReturn o => o.rn == pcReg || o.w && o.registers.getLsbD o.rn.toNat
  | .ldmUser o => o.sbz21 != 0 || o.rn == pcReg || o.registers == 0
  | .stmUser o => o.sbz21 != 0 || o.rn == pcReg || o.registers == 0
  | .stmda o => o.rn == pcReg || o.registers == 0 || o.w && o.baseNotLowest
  | .ldmda o => o.rn == pcReg || o.registers == 0 || o.w && o.registers.getLsbD o.rn.toNat
  | .stm o => o.rn == pcReg || o.registers == 0 || o.w && o.baseNotLowest
  | .ldm o => o.rn == pcReg || o.registers == 0 || o.w && o.registers.getLsbD o.rn.toNat
  | .stmdb o => o.rn == pcReg || o.registers == 0 || o.w && o.baseNotLowest
  | .ldmdb o => o.rn == pcReg || o.registers == 0 || o.w && o.registers.getLsbD o.rn.toNat
  | .stmib o => o.rn == pcReg || o.registers == 0 || o.w && o.baseNotLowest
  | .ldmib o => o.rn == pcReg || o.registers == 0 || o.w && o.registers.getLsbD o.rn.toNat
  | .b _ => false
  | .bl _ => false
  | .undefCoproc00000 _ => false
  | .svc _ => false
  | .vfpLoadStore _ => false
  | .vfpData _ => false
  | .mcrP15 o => o.rt == pcReg
  | .mrcP15 _ => false
  | .mcrr _ => false
  | .stc _ => false
  | .cdp _ => false
  | .mcrOther _ => false
  | .undefAnyOther _ => false

/-- R48: the bits of N, Z, C, V, Q and GE that the instruction may write, as a mask of CPSR. -/
def Instr.flagsWritten : Instr → Word
  | .msrReg o => if o.r then 0 else (if o.mask.getLsbD 3 then 0xF8000000 else 0) ||| (if o.mask.getLsbD 2 then 0x000F0000 else 0)
  | .msrImm o => if o.r then 0 else (if o.mask.getLsbD 3 then 0xF8000000 else 0) ||| (if o.mask.getLsbD 2 then 0x000F0000 else 0)
  | .andImm o => if !o.s then 0 else if o.rd = pcReg then 0xF80F0000 else 0xE0000000
  | .andReg o => if !o.s then 0 else if o.rd = pcReg then 0xF80F0000 else 0xE0000000
  | .andRsr o => if o.s then 0xE0000000 else 0
  | .eorImm o => if !o.s then 0 else if o.rd = pcReg then 0xF80F0000 else 0xE0000000
  | .eorReg o => if !o.s then 0 else if o.rd = pcReg then 0xF80F0000 else 0xE0000000
  | .eorRsr o => if o.s then 0xE0000000 else 0
  | .subImm o => if !o.s then 0 else if o.rd = pcReg then 0xF80F0000 else 0xF0000000
  | .subReg o => if !o.s then 0 else if o.rd = pcReg then 0xF80F0000 else 0xF0000000
  | .subRsr o => if o.s then 0xF0000000 else 0
  | .rsbImm o => if !o.s then 0 else if o.rd = pcReg then 0xF80F0000 else 0xF0000000
  | .rsbReg o => if !o.s then 0 else if o.rd = pcReg then 0xF80F0000 else 0xF0000000
  | .rsbRsr o => if o.s then 0xF0000000 else 0
  | .addImm o => if !o.s then 0 else if o.rd = pcReg then 0xF80F0000 else 0xF0000000
  | .addReg o => if !o.s then 0 else if o.rd = pcReg then 0xF80F0000 else 0xF0000000
  | .addRsr o => if o.s then 0xF0000000 else 0
  | .adcImm o => if !o.s then 0 else if o.rd = pcReg then 0xF80F0000 else 0xF0000000
  | .adcReg o => if !o.s then 0 else if o.rd = pcReg then 0xF80F0000 else 0xF0000000
  | .adcRsr o => if o.s then 0xF0000000 else 0
  | .sbcImm o => if !o.s then 0 else if o.rd = pcReg then 0xF80F0000 else 0xF0000000
  | .sbcReg o => if !o.s then 0 else if o.rd = pcReg then 0xF80F0000 else 0xF0000000
  | .sbcRsr o => if o.s then 0xF0000000 else 0
  | .rscImm o => if !o.s then 0 else if o.rd = pcReg then 0xF80F0000 else 0xF0000000
  | .rscReg o => if !o.s then 0 else if o.rd = pcReg then 0xF80F0000 else 0xF0000000
  | .rscRsr o => if o.s then 0xF0000000 else 0
  | .orrImm o => if !o.s then 0 else if o.rd = pcReg then 0xF80F0000 else 0xE0000000
  | .orrReg o => if !o.s then 0 else if o.rd = pcReg then 0xF80F0000 else 0xE0000000
  | .orrRsr o => if o.s then 0xE0000000 else 0
  | .bicImm o => if !o.s then 0 else if o.rd = pcReg then 0xF80F0000 else 0xE0000000
  | .bicReg o => if !o.s then 0 else if o.rd = pcReg then 0xF80F0000 else 0xE0000000
  | .bicRsr o => if o.s then 0xE0000000 else 0
  | .movImm o => if !o.s then 0 else if o.rd = pcReg then 0xF80F0000 else 0xE0000000
  | .movReg o => if !o.s then 0 else if o.rd = pcReg then 0xF80F0000 else 0xE0000000
  | .rrx o => if !o.s then 0 else if o.rd = pcReg then 0xF80F0000 else 0xE0000000
  | .lslImm o => if !o.s then 0 else if o.rd = pcReg then 0xF80F0000 else 0xE0000000
  | .lsrImm o => if !o.s then 0 else if o.rd = pcReg then 0xF80F0000 else 0xE0000000
  | .asrImm o => if !o.s then 0 else if o.rd = pcReg then 0xF80F0000 else 0xE0000000
  | .rorImm o => if !o.s then 0 else if o.rd = pcReg then 0xF80F0000 else 0xE0000000
  | .mvnImm o => if !o.s then 0 else if o.rd = pcReg then 0xF80F0000 else 0xE0000000
  | .mvnReg o => if !o.s then 0 else if o.rd = pcReg then 0xF80F0000 else 0xE0000000
  | .lslReg o => if o.s then 0xE0000000 else 0
  | .lsrReg o => if o.s then 0xE0000000 else 0
  | .asrReg o => if o.s then 0xE0000000 else 0
  | .rorReg o => if o.s then 0xE0000000 else 0
  | .mvnRsr o => if o.s then 0xE0000000 else 0
  | .tstImm _ | .tstReg _ | .tstRsr _ | .teqImm _ | .teqReg _ | .teqRsr _ => 0xE0000000
  | .cmpImm _ | .cmpReg _ | .cmpRsr _ | .cmnImm _ | .cmnReg _ | .cmnRsr _ => 0xF0000000
  | .mul o => if o.s then 0xC0000000 else 0
  | .mla o => if o.s then 0xC0000000 else 0
  | .umull o => if o.s then 0xC0000000 else 0
  | .umlal o => if o.s then 0xC0000000 else 0
  | .smull o => if o.s then 0xC0000000 else 0
  | .smlal o => if o.s then 0xC0000000 else 0
  | .mrcP15 o => if o.rt = pcReg then 0xF0000000 else 0
  | .ldmExcReturn _ => 0xF80F0000
  | _ => 0

end Sys2Proof
end

