-- ==== Sys2Proof/Machine/HostActions.lean ====
section
/-! DEFINITION. What the host and the peer subsystem may do between two steps (R14, R125): interrupts (R540), snapshots
(R79), reset (R580), the boot handoff (R586), and writes of physical memory. No step calls these. -/

namespace Sys2Proof.Machine

/-- R540: `interrupt()`. -/
def State.interrupt (s : State) : State := { s with irqPending := true }

/-- R540: `fiq()`. -/
def State.fiq (s : State) : State := { s with fiqPending := true }

/-- R79: `save()`: a snapshot is a whole state. -/
def State.save (s : State) : State := s

/-- R79: `restore(snapshot)`: everything of spec/10_state.md is replaced and `pending_branch` is None; memory, the
parameters and the free draws are not the snapshot's (log entry 25). -/
def State.restore (s snapshot : State) : State :=
  { snapshot with pendingBranch := none, mem := s.mem, params := s.params, draws := s.draws }

/-- R580: `reset()` with a draw of what it leaves UNKNOWN; memory is unchanged. -/
def State.hostReset (s : State) (draw : ResetDraw) : State := State.resetFrom s.params draw s.mem s.draws

/-- R586: the optional boot handoff after reset. -/
def State.bootHandoff (s : State) (machineType bootData entry : Word) : State :=
  { s with
    cells := ((s.cells.set 0 0).set 1 machineType).set 2 bootData
    cpsr := 0x000001D3
    pc := entry }

/-- R125: the peer subsystem writes one byte. -/
def State.peerWrite (s : State) (pa : Word) (b : Byte) : State := { s with mem := s.mem.write pa b }

/-- R5, R582: the terminal state that a halt leaves; only the reason is specified (D49, log entry 7). -/
def State.haltedWith (s : State) (f : Fault) : State := { s with halted := some f }

end Sys2Proof.Machine
end

