-- ==== Sys2Proof/Safety.lean ====
section
/-! DEFINITION. What the spec promises of every state between two steps, in the terms the statements use. -/

namespace Sys2Proof.Machine

/-- R100: memory is in its canonical form. -/
def State.memoryCanonical (s : State) : Bool := s.mem.wf

/-- R44: the PC is word aligned. -/
def State.pcAligned (s : State) : Bool := slice s.pc 0 2 == 0

/-- R35: the mode field holds one of the eight encodings. -/
def State.legalMode (s : State) : Bool := !badMode (psrM s.cpsr)

/-- R37: T, J and IT are 0 in every state the core executes in. -/
def State.armState (s : State) : Bool := (execStateFault s.cpsr).isNone

/-- R36: the reserved bits 23:20 of CPSR read as zero. -/
def State.cpsrReservedZero (s : State) : Bool := slice s.cpsr 20 4 == 0

/-- R62, R63: the fixed bits of SCTLR hold their values and NMFI holds CFGNMFI. -/
def State.sctlrFixed (s : State) : Bool := sctlrStored s.params.cfgnmfi s.cp15.sctlr == s.cp15.sctlr

/-- R66: the bits of TTBCR that are RAZ/WI are 0. -/
def State.ttbcrFixed (s : State) : Bool := s.cp15.ttbcr &&& ttbcrMask == s.cp15.ttbcr

/-- R43: no PC write is pending at an instruction boundary. -/
def State.noPendingBranch (s : State) : Bool := s.pendingBranch.isNone

/-- The invariant of every state between two steps. -/
def State.inv (s : State) : Bool :=
  s.memoryCanonical && s.pcAligned && s.legalMode && s.armState && s.cpsrReservedZero && s.sctlrFixed && s.ttbcrFixed
    && s.noPendingBranch

/-- A run of `n` steps that neither halts nor is refused ends in the state. -/
def State.runsTo : Nat → State → State → Prop
  | 0, s, t => s = t
  | n + 1, s, t => ∃ u, step s = .next u ∧ u.runsTo n t

end Sys2Proof.Machine
end

