-- ==== Sys2Proof/Claims.lean ====
section
/-! DEFINITION. The terms in which the statements say what the spec's rules say: formulas read from the rules (exact
integers, single bits, tables), and the shape of a statement that several instructions share. -/

namespace Sys2Proof

/-- R13: the condition that the instruction evaluates, if it evaluates one, passes. -/
def Instr.passes (i : Instr) (s : Machine.State) : Bool :=
  match i.condition with
  | some c => Machine.conditionPassed c s.cpsr
  | none => true

/-- The instruction is not UNPREDICTABLE (R190) and its condition passes (R13). -/
def Instr.runs (i : Instr) (s : Machine.State) : Prop := i.unpredictable = false ∧ i.passes s = true

/-- R191, R496: the instructions whose own effect is to raise the Undefined Instruction exception. -/
def Instr.isUndefined : Instr → Bool
  | .undefUncondMisc _ | .undefUncond1100000 _ | .undefUncondOther _ | .mcrr2 _ | .stc2 _ | .cdp2 _ | .mcr2 _ => true
  | .mrsMsrBanked _ | .eret _ | .hvc _ | .undefMisc _ | .undefMultiply0101 _ | .undefMultiply0111 _ => true
  | .undefSync _ | .udf _ | .undefCoproc00000 _ | .undefAnyOther _ => true
  | .mcrr _ | .stc _ | .cdp _ | .mcrOther _ => true
  | _ => false

/-- R194, R470 to R476: the hints, barriers and preloads that have no effect. -/
def Instr.hasNoEffect : Instr → Bool
  | .nop _ | .yield _ | .wfe _ | .sev _ | .dbg _ | .hintUnallocated _ => true
  | .dmb _ | .dsb _ | .isb _ => true
  | .pldImm _ | .pldReg _ | .pldwImm _ | .pldwReg _ | .pliImm _ | .pliReg _ | .memHintImm _ | .memHintReg _ => true
  | _ => false

/-- R451, R452: MSR of an SPSR. -/
def Instr.writesSpsr : Instr → Bool
  | .msrImm o => o.r
  | .msrReg o => o.r
  | _ => false

/-- R411 to R415, R421, R422: the instructions that load several registers from a block. -/
def Instr.loadsBlock : Instr → Bool
  | .ldm _ | .ldmda _ | .ldmdb _ | .ldmib _ | .ldmUser _ | .ldmExcReturn _ => true
  | _ => false

namespace Machine

/-! ### Status words -/

/-- R36: a status word with N, Z, C and V replaced. -/
def withNZCV (w : Word) (n z c v : Bool) : Word :=
  (w &&& 0x0FFFFFFF) ||| (if n then 0x80000000 else 0) ||| (if z then 0x40000000 else 0)
    ||| (if c then 0x20000000 else 0) ||| (if v then 0x10000000 else 0)

/-- R36: a status word with N and Z replaced. -/
def withNZ (w : Word) (n z : Bool) : Word :=
  (w &&& 0x3FFFFFFF) ||| (if n then 0x80000000 else 0) ||| (if z then 0x40000000 else 0)

/-- R39: `NMFI_BLOCKS` for a write of `f` to CPSR.F. -/
def State.blocksF (s : State) (f : Bool) : Bool :=
  s.cp15.sctlr.getLsbD 27 && (match s.params.nmfiPolicy with | .source => !f | .arch => f)

/-- R39: whether a write of CPSR without execution state, whose value has bit 6 equal to `f`, replaces bit `j`. -/
def State.cpsrBitWritten (s : State) (mask : BitVec 4) (f : Bool) (j : Nat) : Bool :=
  (mask.getLsbD 3 && decide (27 ≤ j)) || (mask.getLsbD 2 && decide (16 ≤ j ∧ j ≤ 19))
    || (mask.getLsbD 1 && (decide (j = 9) || (decide (j = 8) && s.privileged)))
    || (mask.getLsbD 0 && s.privileged && (decide (j = 7) || (decide (j = 6) && !s.blocksF f) || decide (j ≤ 4)))

/-- R46: whether a write of an SPSR replaces bit `j`. -/
def spsrBitWritten (mask : BitVec 4) (j : Nat) : Bool :=
  (mask.getLsbD 3 && decide (24 ≤ j)) || (mask.getLsbD 2 && decide (16 ≤ j ∧ j ≤ 19))
    || (mask.getLsbD 1 && decide (8 ≤ j ∧ j ≤ 15)) || (mask.getLsbD 0 && decide (j ≤ 7))

/-- R451, R452: the instruction is an MSR of CPSR (or, with `r`, of an SPSR) under a mask, and this is its value. -/
def IsMsr (i : Instr) (r : Bool) (mask : BitVec 4) (value : State → Word) : Prop :=
  (∃ o, i = .msrReg o ∧ o.r = r ∧ mask = o.mask ∧ value = fun s => s.reg o.rn) ∨
  (∃ o, i = .msrImm o ∧ o.r = r ∧ mask = o.mask ∧ value = fun s => (armExpandImmC o.imm12 (psrC s.cpsr)).1)

/-- R527, R39: the CPSR that an exception return makes of an SPSR: every bit but 23:20, and but F where NMFI blocks it. -/
def State.returnedCpsr (s : State) (spsr c : Word) : Prop :=
  ∀ j, j < 32 → c.getLsbD j =
    if (20 ≤ j ∧ j ≤ 23) ∨ (j = 6 ∧ s.blocksF (spsr.getLsbD 6) = true) then s.cpsr.getLsbD j else spsr.getLsbD j

/-- R527, R39, R37: what an exception return to `target` from the SPSR `spsr` ends in, in the order of R527's checks: the halts
of an unaligned target, of a bad mode, of Thumb or IT, and of Jazelle (J without T or IT: log entry 18), or `completes`. -/
def ReturnEnds (spsr target : Word) (out : Out) (completes : Prop) : Prop :=
  let aligned := target.extractLsb' 0 2 = 0
  let thumb := psrT spsr = true ∨ spsr &&& itMask ≠ 0
  (psrT spsr = false → ¬ aligned → out = .fault (.unpredictable (.rule 527))) ∧
  (psrT spsr = true ∨ aligned → badMode (psrM spsr) = true → out = .fault (.unpredictable .badMode)) ∧
  (psrT spsr = true ∨ aligned → badMode (psrM spsr) = false → thumb → out = .fault (.notImplemented .thumb)) ∧
  (aligned → badMode (psrM spsr) = false → ¬ thumb → psrJ spsr = true → out = .fault (.notImplemented .jazelle)) ∧
  (aligned → badMode (psrM spsr) = false → ¬ thumb → psrJ spsr = false → completes)

/-! ### Registers -/

/-- R32: the columns of the table that share r13 and r14. -/
def Mode.stackBank : Mode → Nat
  | .usr | .sys => 0
  | .fiq => 1
  | .irq => 2
  | .svc => 3
  | .mon => 4
  | .abt => 5
  | .und => 6

/-- R32: two modes see the same copy of register `i`. -/
def sameCopy (i : Reg) (m m' : Mode) : Bool :=
  decide (i.toNat < 8) || (decide (i.toNat < 13) && (decide (m = .fiq) == decide (m' = .fiq)))
    || decide (m.stackBank = m'.stackBank)

/-! ### Data processing -/

/-- R230 to R237, R242, R244: the result. -/
def DpOp.result (op : DpOp) (x y : Word) (c : Bool) : Word :=
  match op with
  | .and => x &&& y
  | .eor => x ^^^ y
  | .sub => x - y
  | .rsb => y - x
  | .add => x + y
  | .adc => x + y + BitVec.ofNat 32 c.toNat
  | .sbc => x - y - BitVec.ofNat 32 (!c).toNat
  | .rsc => y - x - BitVec.ofNat 32 (!c).toNat
  | .orr => x ||| y
  | .bic => x &&& ~~~y

/-- R220, R230 to R244: the carry: of an addition whether it passes 2^32, of a subtraction whether it borrows nothing, of a
logical operation the shifter's carry `sc`. -/
def DpOp.carryOut (op : DpOp) (x y : Word) (c sc : Bool) : Bool :=
  match op with
  | .sub => decide (y.toNat ≤ x.toNat)
  | .rsb => decide (x.toNat ≤ y.toNat)
  | .add => decide (2 ^ 32 ≤ x.toNat + y.toNat)
  | .adc => decide (2 ^ 32 ≤ x.toNat + y.toNat + c.toNat)
  | .sbc => decide (y.toNat + (!c).toNat ≤ x.toNat)
  | .rsc => decide (x.toNat + (!c).toNat ≤ y.toNat)
  | .and | .eor | .orr | .bic => sc

/-- The integer is no 32-bit signed number. -/
def outOfRange (e : Int) : Bool := decide (e < -2 ^ 31 ∨ 2 ^ 31 ≤ e)

/-- R220, R230 to R244: the overflow: whether the exact signed result is no 32-bit number; a logical operation keeps V. -/
def DpOp.overflows (op : DpOp) (x y : Word) (c v : Bool) : Bool :=
  match op with
  | .sub => outOfRange (x.toInt - y.toInt)
  | .rsb => outOfRange (y.toInt - x.toInt)
  | .add => outOfRange (x.toInt + y.toInt)
  | .adc => outOfRange (x.toInt + y.toInt + c.toNat)
  | .sbc => outOfRange (x.toInt - y.toInt - (!c).toNat)
  | .rsc => outOfRange (y.toInt - x.toInt - (!c).toNat)
  | .and | .eor | .orr | .bic => v

/-- R222: the three forms of a data-processing instruction with a destination and a first operand. -/
inductive DpForm where
  | imm (o : DpImm)
  | reg (o : DpReg)
  | rsr (o : DpRsr)
  deriving DecidableEq, Repr

/-- The instruction of an operation in a form. -/
def DpOp.instr : DpOp → DpForm → Instr
  | .and, .imm o => .andImm o
  | .and, .reg o => .andReg o
  | .and, .rsr o => .andRsr o
  | .eor, .imm o => .eorImm o
  | .eor, .reg o => .eorReg o
  | .eor, .rsr o => .eorRsr o
  | .sub, .imm o => .subImm o
  | .sub, .reg o => .subReg o
  | .sub, .rsr o => .subRsr o
  | .rsb, .imm o => .rsbImm o
  | .rsb, .reg o => .rsbReg o
  | .rsb, .rsr o => .rsbRsr o
  | .add, .imm o => .addImm o
  | .add, .reg o => .addReg o
  | .add, .rsr o => .addRsr o
  | .adc, .imm o => .adcImm o
  | .adc, .reg o => .adcReg o
  | .adc, .rsr o => .adcRsr o
  | .sbc, .imm o => .sbcImm o
  | .sbc, .reg o => .sbcReg o
  | .sbc, .rsr o => .sbcRsr o
  | .rsc, .imm o => .rscImm o
  | .rsc, .reg o => .rscReg o
  | .rsc, .rsr o => .rscRsr o
  | .orr, .imm o => .orrImm o
  | .orr, .reg o => .orrReg o
  | .orr, .rsr o => .orrRsr o
  | .bic, .imm o => .bicImm o
  | .bic, .reg o => .bicReg o
  | .bic, .rsr o => .bicRsr o

def DpForm.setsFlags : DpForm → Bool
  | .imm o => o.s
  | .reg o => o.s
  | .rsr o => o.s

def DpForm.rn : DpForm → Reg
  | .imm o => o.rn
  | .reg o => o.rn
  | .rsr o => o.rn

def DpForm.rd : DpForm → Reg
  | .imm o => o.rd
  | .reg o => o.rd
  | .rsr o => o.rd

/-- R222: the shifter operand and its carry. -/
def DpForm.operand : DpForm → State → Word × Bool
  | .imm o => operandImm o.imm12
  | .reg o => operandReg o.rm o.type o.imm5
  | .rsr o => operandRsr o.rm (decodeRegShift o.type) o.rs

/-- R222: the three forms of a compare or test. -/
inductive CmpForm where
  | imm (o : CmpImm)
  | reg (o : CmpReg)
  | rsr (o : CmpRsr)
  deriving DecidableEq, Repr

def CmpForm.rn : CmpForm → Reg
  | .imm o => o.rn
  | .reg o => o.rn
  | .rsr o => o.rn

/-- R222: the shifter operand and its carry. -/
def CmpForm.operand : CmpForm → State → Word × Bool
  | .imm o => operandImm o.imm12
  | .reg o => operandReg o.rm o.type o.imm5
  | .rsr o => operandRsr o.rm (decodeRegShift o.type) o.rs

/-- R238 to R241: TST, TEQ, CMP and CMN, the operations AND, EOR, SUB and ADD without a destination. -/
inductive CmpOp where
  | tst
  | teq
  | cmp
  | cmn
  deriving DecidableEq, Repr

def CmpOp.operation : CmpOp → DpOp
  | .tst => .and
  | .teq => .eor
  | .cmp => .sub
  | .cmn => .add

/-- The instruction of a compare or test in a form. -/
def CmpOp.instr : CmpOp → CmpForm → Instr
  | .tst, .imm o => .tstImm o
  | .tst, .reg o => .tstReg o
  | .tst, .rsr o => .tstRsr o
  | .teq, .imm o => .teqImm o
  | .teq, .reg o => .teqReg o
  | .teq, .rsr o => .teqRsr o
  | .cmp, .imm o => .cmpImm o
  | .cmp, .reg o => .cmpReg o
  | .cmp, .rsr o => .cmpRsr o
  | .cmn, .imm o => .cmnImm o
  | .cmn, .reg o => .cmnReg o
  | .cmn, .rsr o => .cmnRsr o

/-- R223: the state after a data-processing instruction whose destination is not the PC. -/
def State.wroteDp (s : State) (setflags : Bool) (rd : Reg) (value : Word) (c v : Bool) : State :=
  State.advance
    { s.setReg rd value with
      cpsr := if setflags then withNZCV s.cpsr value.msb (value == 0) c v else s.cpsr }

/-- R243, R245 to R254: the instruction moves a value into its destination; `C` is the carry that goes with the value, V
stays. -/
def Moves (i : Instr) (setflags : Bool) (rd : Reg) (value : State → Word) (carry : State → Bool) : Prop :=
  ∀ s : State, i.runs s → rd ≠ pcReg →
    exec i s = .next (s.wroteDp setflags rd (value s) (carry s) (psrV s.cpsr))

/-- R221 on register `rm`, with the carry flag. -/
def State.shifted (s : State) (rm : Reg) (ty : ShiftType) (amount : Nat) : Word × Bool :=
  shiftC (s.reg rm) ty amount (psrC s.cpsr)

/-- R186, R251 to R254: the amount of a shift by register. -/
def State.shiftAmount (s : State) (rs : Reg) : Nat := (s.reg rs).toNat % 256

/-- R247, R248: the amount of an LSR or ASR by an immediate. -/
def immAmount (imm5 : BitVec 5) : Nat := if imm5 = 0 then 32 else imm5.toNat

/-- R42, R41: the instruction branches to its result `target`, S = 0 and Rd = 15. -/
def BranchesTo (i : Instr) (target : State → Word) : Prop :=
  ∀ s : State, i.runs s →
    ((target s).getLsbD 0 = true → exec i s = .fault (.notImplemented .thumb)) ∧
    ((target s).getLsbD 0 = false → (target s).getLsbD 1 = true → exec i s = .fault (.unpredictable (.rule 41))) ∧
    ((target s).getLsbD 0 = false → (target s).getLsbD 1 = false →
      exec i s = .next { s with pc := target s, pendingBranch := none })

/-- R527: the instruction returns from an exception to its result `target`, S = 1 and Rd = 15. -/
def ReturnsTo (i : Instr) (target : State → Word) : Prop :=
  ∀ (s : State), i.runs s →
    (s.spsr.get s.mode = none → exec i s = .fault (.unpredictable .noSPSR)) ∧
    ∀ spsr, s.spsr.get s.mode = some spsr → ReturnEnds spsr (target s) (exec i s)
      (∃ c, exec i s = .next { s with cpsr := c, pc := target s, pendingBranch := none } ∧ s.returnedCpsr spsr c)

/-! ### Loads and stores -/

/-- R340: the addressing of a load or store: its P, U and W, its base and its offset. -/
structure AddrForm where
  p : Bool
  u : Bool
  w : Bool
  rn : Reg
  offset : State → Word

/-- R340: `offset_addr`. -/
def AddrForm.offsetAddr (a : AddrForm) (s : State) : Word :=
  if a.u then s.reg a.rn + a.offset s else s.reg a.rn - a.offset s

/-- R340: the address of the access. -/
def AddrForm.address (a : AddrForm) (s : State) : Word := if a.p then a.offsetAddr s else s.reg a.rn

/-- R340: the state `t` after the write-back whose values are taken from `s`. -/
def AddrForm.back (a : AddrForm) (s t : State) : State :=
  if !a.p || a.w then t.setReg a.rn (a.offsetAddr s) else t

/-- R345: the addressing of an unprivileged form. -/
def unprivForm (u : Bool) (rn : Reg) (offset : State → Word) : AddrForm :=
  { p := false, u := u, w := true, rn := rn, offset := offset }

/-- R340, R186: the offset of a register form of a word or byte access. -/
def shiftedOffset (rm : Reg) (ty : BitVec 2) (imm5 : BitVec 5) (s : State) : Word :=
  (shiftC (s.reg rm) (decodeImmShift ty imm5).1 (decodeImmShift ty imm5).2 (psrC s.cpsr)).1

/-- R187: the offset of an immediate form of a halfword, signed or dual access. -/
def splitOffset (imm4H imm4L : BitVec 4) (_ : State) : Word := (imm4H ++ imm4L).setWidth 32

/-- R187: the offset of an immediate form of a word or byte access. -/
def plainOffset (imm12 : BitVec 12) (_ : State) : Word := imm12.setWidth 32

/-- R8: `sext_32` of a loaded byte. -/
def signedByte (v : Word) : Word := (v.setWidth 8).signExtend 32

/-- R8: `sext_32` of a loaded halfword. -/
def signedHalf (v : Word) : Word := (v.setWidth 16).signExtend 32

/-- R341, R350 to R367, R526, R532, R102: a load of one register: where its read answers, the destination and the base are
written and nothing else changes; where its read aborts, the abort is taken from the state before the instruction; where its
read halts (big-endian data, a refused descriptor), so does the instruction. -/
def LoadsRegister (i : Instr) (w : Width) (acc : Access) (ext : Word → Word) (a : AddrForm) (rt : Reg) : Prop :=
  ∀ s : State, i.runs s → rt ≠ pcReg →
    (∀ data, memRead (a.address s) w acc s = .ok data s →
      exec i s = .next (State.advance ((a.back s s).setReg rt (ext data)))) ∧
    (∀ va status write, memRead (a.address s) w acc s = .exc (.dataAbort va status write) s →
      exec i s = takeException .dataAbort (s.pc + 8) (s.setMemoryAbort va status write)) ∧
    (∀ f, memRead (a.address s) w acc s = .halt f → exec i s = .fault f)

/-- R107: the access is made at the one physical address `pa`: E = 0, and either the access is aligned or passes through, and
its address translates to `pa`, or it is split into bytes with the MMU off. -/
def State.reaches (s : State) (va : Word) (w : Width) (acc : Access) (pa : Word) : Prop :=
  psrE s.cpsr = false ∧
  (((va.toNat % w.bytes = 0 ∨ (acc.split = false ∧ s.checkUnaligned = false)) ∧ s.translate va acc = .pa pa) ∨
   (acc.split = true ∧ s.mmuEnabled = false ∧ pa = va))

/-- R103: `m'` is `m` with the low `n` bytes of `v` stored from `pa` upwards, and every other byte as it was. -/
def Memory.Stored (m : Memory) (pa : Word) (n : Nat) (v : Word) (m' : Memory) : Prop :=
  ∀ a : Word, m'.read a = if (a - pa).toNat < n then v.extractLsb' (8 * (a - pa).toNat) 8 else m.read a

/-- R107, R108: `σ` is the memory before each of the first `k` bytes of a split write of `v` at `va` and after the last: byte
`j` goes to the physical address that its own translation gives with the earlier bytes already stored. -/
def State.bytesStored (s : State) (va : Word) (acc : Access) (v : Word) (k : Nat) (σ : Nat → Memory) : Prop :=
  σ 0 = s.mem ∧ ∀ j, j < k →
    ∃ pa, State.translate { s with mem := σ j } (va + BitVec.ofNat 32 j) acc = .pa pa ∧
      σ (j + 1) = (σ j).write pa (v.extractLsb' (8 * j) 8)

/-- R352 to R369, R341, R107, R108: a store of one register. Where its write answers, only memory and the base change; where
the bytes go to one physical address, exactly those bytes of memory change; a split store makes the byte writes of its own
translations, and an abort of a byte is taken with the earlier bytes stored; where the write aborts, the abort is taken with
what it had stored; where it halts (R102, a refused descriptor, of a split store at any byte), so does the instruction. -/
def StoresRegister (i : Instr) (w : Width) (acc : Access) (a : AddrForm) (rt : Reg) : Prop :=
  ∀ s : State, i.runs s →
    (∀ t, memWrite (a.address s) w (s.reg rt) acc s = .ok () t →
      exec i s = .next (State.advance (a.back s { s with mem := t.mem })) ∧
      (w.bytes ∣ (a.address s).toNat ∨ acc.split = false ∨
        ∀ b : Word, (∀ k u, k < w.bytes → writeSplit (a.address s) acc (s.reg rt) s k = .ok () u →
          u.translate (a.address s + BitVec.ofNat 32 k) acc ≠ .pa b) → t.mem.read b = s.mem.read b)) ∧
    (∀ pa, s.memoryCanonical = true → s.reaches (a.address s) w acc pa →
      ∃ m, exec i s = .next (State.advance (a.back s { s with mem := m })) ∧
        s.mem.Stored pa w.bytes (s.reg rt) m) ∧
    (acc.split = true → psrE s.cpsr = false → (a.address s).toNat % w.bytes ≠ 0 → ∀ (k : Nat) (σ : Nat → Memory),
      s.bytesStored (a.address s) acc (s.reg rt) k σ →
      (k = w.bytes → exec i s = .next (State.advance (a.back s { s with mem := σ k }))) ∧
      (k < w.bytes → ∀ va status write,
        State.translate { s with mem := σ k } (a.address s + BitVec.ofNat 32 k) acc = .abort (.dataAbort va status write) →
        exec i s = takeException .dataAbort (s.pc + 8) (State.setMemoryAbort { s with mem := σ k } va status write)) ∧
      (k < w.bytes → ∀ f, State.translate { s with mem := σ k } (a.address s + BitVec.ofNat 32 k) acc = .halt f →
        exec i s = .fault f)) ∧
    (∀ va status write t, memWrite (a.address s) w (s.reg rt) acc s = .exc (.dataAbort va status write) t →
      exec i s = takeException .dataAbort (s.pc + 8) ({ s with mem := t.mem }.setMemoryAbort va status write)) ∧
    (∀ f, memWrite (a.address s) w (s.reg rt) acc s = .halt f → exec i s = .fault f)

/-! ### Block transfers -/

/-- R410: how many registers a list names. -/
def listCount {n : Nat} (registers : BitVec n) : Nat := ((List.range n).filter fun i => registers.getLsbD i).length

/-- R410: how many registers below `r` a list names: the position of `r` in the block. -/
def listRank {n : Nat} (registers : BitVec n) (r : Nat) : Nat :=
  ((List.range r).filter fun i => registers.getLsbD i).length

/-- R410: the start address of the block of `count` words. -/
def blockFrom (p u : Bool) (base : Word) (count : Nat) : Word :=
  match p, u with
  | false, true => base
  | true, true => base + 4
  | false, false => base - 4 * BitVec.ofNat 32 count + 4
  | true, false => base - 4 * BitVec.ofNat 32 count

/-- R410: the written-back value. -/
def blockBack (u : Bool) (base : Word) (count : Nat) : Word :=
  if u then base + 4 * BitVec.ofNat 32 count else base - 4 * BitVec.ofNat 32 count

/-- The address of word `k` of a block. -/
def wordAt (start : Word) (k : Nat) : Word := start + 4 * BitVec.ofNat 32 k

/-- R411: the words of a block of `count` words are readable, and these are their values. -/
def State.readsBlock (s : State) (start : Word) (count : Nat) (value : Nat → Word) : Prop :=
  ∀ k, k < count → memRead (wordAt start k) .word (readAccess false false) s = .ok (value k) s

/-- R411, R422: `t` has the registers of `s`, but for those of the list in mode `m`, which hold the words of the block, and
the base in the current mode, which holds `back` if there is a write-back. -/
def State.loadedBlock {n : Nat} (s : State) (m : Mode) (registers : BitVec n) (value : Nat → Word) (rn : Reg)
    (back : Option Word) (cells : Vector Word 32) : Prop :=
  (∀ r : Reg, r ≠ pcReg → registers.getLsbD r.toNat = true →
    cells.get (cellOf m r) = value (listRank registers r.toNat)) ∧
  (∀ v, back = some v → cells.get (cellOf s.mode rn) = v) ∧
  (∀ k : Fin 32, (∀ r : Reg, r ≠ pcReg → registers.getLsbD r.toNat = true → cellOf m r ≠ k) →
    (back.isSome = true → cellOf s.mode rn ≠ k) → cells.get k = s.cells.get k)

/-- R410, R102, R110: the load of a block of `count` words from `start` halts as the read of its first halting word does. -/
def BlockLoadHalts (i : Instr) (s : State) (start : Word) (count : Nat) : Prop :=
  ∀ (k : Nat) (value : Nat → Word) (f : Fault), k < count → s.readsBlock start k value →
    memRead (wordAt start k) .word (readAccess false false) s = .halt f → exec i s = .fault f

/-- R411 to R415: a load of a block into the registers of the current mode. With the PC in its list it branches to the last
word read. -/
def LoadsBlock (i : Instr) (p u : Bool) (o : BlockOp) : Prop :=
  ∀ s : State, i.runs s →
    let start := blockFrom p u (s.reg o.rn) (listCount o.registers)
    let back := if o.w then some (blockBack u (s.reg o.rn) (listCount o.registers)) else none
    (∀ value : Nat → Word, s.readsBlock start (listCount o.registers) value →
      let last := value (listCount o.registers - 1)
      (o.registers.getLsbD 15 = false →
        ∃ cells, exec i s = .next (State.advance { s with cells := cells }) ∧
          s.loadedBlock s.mode o.registers value o.rn back cells) ∧
      (o.registers.getLsbD 15 = true → last.extractLsb' 0 2 = 0 →
        ∃ cells, exec i s = .next { s with cells := cells, pc := last, pendingBranch := none } ∧
          s.loadedBlock s.mode o.registers value o.rn back cells) ∧
      (o.registers.getLsbD 15 = true → last.getLsbD 0 = true → exec i s = .fault (.notImplemented .thumb)) ∧
      (o.registers.getLsbD 15 = true → last.getLsbD 0 = false → last.getLsbD 1 = true →
        exec i s = .fault (.unpredictable (.rule 41)))) ∧
    BlockLoadHalts i s start (listCount o.registers)

/-- R416, R423: the registers that a block store in mode `m` stores, r15 as PC + 8. -/
def State.storedWord (s : State) (m : Mode) (r : Reg) : Word := if r = pcReg then s.pc + 8 else s.rmode m r

/-- R416, R423: `m'` is the memory after the registers of the list in mode `mode` are stored from `start` upwards, every
byte outside the block as it was. -/
def State.storedBlock (s : State) (mode : Mode) (registers : BitVec 16) (start : Word) (m' : Memory) : Prop :=
  (∀ r : Reg, registers.getLsbD r.toNat = true → ∀ k, k < 4 →
    m'.read (wordAt start (listRank registers r.toNat) + BitVec.ofNat 32 k)
      = (s.storedWord mode r).extractLsb' (8 * k) 8) ∧
  (∀ a : Word, 4 * listCount registers ≤ (a - start).toNat → m'.read a = s.mem.read a)

/-- R107, R410: a strict access of every word of the block is made at its own address: E = 0, the MMU off, and the block
aligned or the alignment check off. -/
def State.plainBlock (s : State) (start : Word) : Prop :=
  psrE s.cpsr = false ∧ s.mmuEnabled = false ∧ (start.toNat % 4 = 0 ∨ s.checkUnaligned = false)

/-- R416, R423, R110: `σ` is the memory before each of the first `k` words of a block store and after the last: word `j`, the
register of that rank, goes to the physical address that its access reaches with the earlier words already stored. -/
def State.wordsStored (s : State) (mode : Mode) (registers : BitVec 16) (start : Word) (k : Nat) (σ : Nat → Memory) : Prop :=
  σ 0 = s.mem ∧ ∀ r : Reg, registers.getLsbD r.toNat = true → listRank registers r.toNat < k →
    let j := listRank registers r.toNat
    ∃ pa, State.reaches { s with mem := σ j } (wordAt start j) .word (writeAccess false false) pa ∧
      σ (j + 1) = (σ j).writeBytes pa 4 (s.storedWord mode r)

/-- R416, R423, R342: the stores of a block, word after word, each at its own translation: after the last the base is written
as `back` says; an abort of word `k` is taken with the earlier words stored and no write-back; a halt of word `k` (R102, R110)
halts the instruction. -/
def BlockStoreEnds (i : Instr) (s : State) (mode : Mode) (registers : BitVec 16) (start : Word) (back : State → State) : Prop :=
  ∀ (k : Nat) (σ : Nat → Memory), s.wordsStored mode registers start k σ →
    (k = listCount registers → exec i s = .next (State.advance (back { s with mem := σ k }))) ∧
    (∀ r : Reg, registers.getLsbD r.toNat = true → listRank registers r.toNat = k →
      let wr := memWrite (wordAt start k) .word (s.storedWord mode r) (writeAccess false false) { s with mem := σ k }
      (∀ va status write, wr = .exc (.dataAbort va status write) { s with mem := σ k } →
        exec i s = takeException .dataAbort (s.pc + 8) (State.setMemoryAbort { s with mem := σ k } va status write)) ∧
      (∀ f, wr = .halt f → exec i s = .fault f))

/-- R342, R410, R532: the load of a block of `count` words from `start` into the registers of a list in mode `m`: an abort of
word `k` takes the data abort of that word with memory, the base register of the current mode and every register outside the
list as they were; nothing is written back, restored or branched to; with SCTLR.TE = 1 its entry halts (R521). -/
def LoadAbortKeepsTheRest {n : Nat} (i : Instr) (s : State) (m : Mode) (registers : BitVec n) (rn : Reg) (start : Word)
    (count : Nat) : Prop :=
  ∀ (k : Nat) (value : Nat → Word) (va : Word) (status : FaultStatus) (write : Bool),
    k < count → s.readsBlock start k value →
    memRead (wordAt start k) .word (readAccess false false) s = .exc (.dataAbort va status write) s →
    (s.cp15.sctlr.getLsbD 30 = true → exec i s = .fault (.notImplemented .thumb)) ∧
    (s.cp15.sctlr.getLsbD 30 = false →
      ∃ t, exec i s = .next t ∧ t.mem = s.mem ∧ t.cp15 = (s.setMemoryAbort va status write).cp15 ∧
        t.spsr = s.spsr.set .abt s.cpsr ∧ t.cpsr = (s.enter .dataAbort (s.pc + 8)).cpsr ∧ t.pc = s.vectorBase + 0x10 ∧
        t.rmode .abt 14 = s.pc + 8 ∧
        ∀ c : Fin 32, c ≠ cellOf .abt 14 →
          (c ≠ cellOf s.mode rn → ∀ r : Reg, r ≠ pcReg → registers.getLsbD r.toNat = true → cellOf m r ≠ c) →
          t.cells.get c = s.cells.get c)

/-- R416 to R420: a store of a block. -/
def StoresBlock (i : Instr) (p u : Bool) (o : BlockOp) : Prop :=
  ∀ s : State, i.runs s →
    let start := blockFrom p u (s.reg o.rn) (listCount o.registers)
    let back (t : State) : State :=
      if o.w then t.setReg o.rn (blockBack u (s.reg o.rn) (listCount o.registers)) else t
    (∀ t, storeList s.mode (registerList o.registers) start s = .ok () t →
      exec i s = .next (State.advance (back { s with mem := t.mem }))) ∧
    (s.memoryCanonical = true → s.plainBlock start →
      ∃ m, exec i s = .next (State.advance (back { s with mem := m })) ∧ s.storedBlock s.mode o.registers start m) ∧
    BlockStoreEnds i s s.mode o.registers start back

/-! ### Translation -/

/-- R118: the fault status code as the low bits of DFSR and IFSR. -/
def faultCode : FaultStatus → Word
  | .alignment => 0x001
  | .translationSection => 0x005
  | .translationPage => 0x007
  | .domainSection => 0x009
  | .domainPage => 0x00B
  | .permissionSection => 0x00D
  | .permissionPage => 0x00F

/-- R110: TTBCR.N, the width of the split. -/
def State.splitWidth (s : State) : Nat := s.cp15.ttbcr.toNat % 8

/-- R110: the walk of `va` starts at TTBR0. -/
def State.walksTtbr0 (s : State) (va : Word) : Prop := s.splitWidth = 0 ∨ va.toNat < 2 ^ (32 - s.splitWidth)

/-- R110: the physical address of the first-level descriptor, as exact numbers. -/
def State.firstLevelAt (s : State) (va : Word) (l1 : Word) : Prop :=
  let n := s.splitWidth
  (s.walksTtbr0 va →
    l1.toNat = s.cp15.ttbr0.toNat / 2 ^ (14 - n) * 2 ^ (14 - n) + va.toNat / 2 ^ 20 * 4) ∧
  (¬ s.walksTtbr0 va → l1.toNat = s.cp15.ttbr1.toNat / 2 ^ 14 * 2 ^ 14 + va.toNat / 2 ^ 20 * 4)

/-- R110, R113: the MMU is on, no configuration bit refuses the walk of an access of `va`, and `d1` is its first-level
descriptor. -/
def State.walks (s : State) (acc : Access) (va : Word) (d1 : Word) : Prop :=
  s.mmuEnabled = true ∧ s.cp15.ttbcr.getLsbD 31 = false ∧ s.cp15.sctlr.getLsbD 29 = false ∧
  (s.walksTtbr0 va → s.cp15.ttbcr.getLsbD 4 = false) ∧ (¬ s.walksTtbr0 va → s.cp15.ttbcr.getLsbD 5 = false) ∧
  ∃ l1, s.firstLevelAt va l1 ∧ d1 = s.physRead (acc.reading .firstLevel va) l1 .word

/-- R110: the second-level descriptor of an access of `va` under the first-level descriptor `d1`. -/
def State.secondLevel (s : State) (acc : Access) (va d1 : Word) : Word :=
  s.physRead (acc.reading .secondLevel va) ((d1 &&& 0xFFFFFC00) ||| ((va >>> 12) &&& 0xFF) <<< 2) .word

/-- R110: the fault that an access raises. -/
def Access.raises (acc : Access) (va : Word) (status : FaultStatus) : Xlat :=
  .abort (if acc.fetch then .prefetchAbort va status else .dataAbort va status acc.write)

/-- R67: the policy of the domain that a first-level descriptor names. -/
def State.policyOf (s : State) (d1 : Word) : Word := (s.cp15.dacr >>> (2 * (d1.extractLsb' 5 4).toNat)) &&& 3

/-- R116, R119: the access passes the domain, the permission (for a client domain) and the execute check. -/
def State.admits (s : State) (acc : Access) (d1 : Word) (ap2 : Bool) (ap10 : BitVec 2) (xn : Bool) : Prop :=
  (s.policyOf d1 = 3 ∨
    (s.policyOf d1 = 1 ∧ permission ap2 ap10 (s.privileged && !acc.unpriv) acc.write = .allowed)) ∧
  (acc.fetch && xn && s.params.enforceXn) = false

/-- R116, R115, R119: the access of `va` fails a check of a descriptor of the given level: what it ends in. -/
def State.deniedAt (s : State) (va : Word) (acc : Access) (domainFault permissionFault : FaultStatus) (d1 : Word)
    (ap2 : Bool) (ap10 : BitVec 2) (xn : Bool) (x : Xlat) : Prop :=
  (s.policyOf d1 = 0 → x = acc.raises va domainFault) ∧
  (s.policyOf d1 = 2 → x = .halt (.unpredictable .domainReserved)) ∧
  (s.policyOf d1 = 1 → permission ap2 ap10 (s.privileged && !acc.unpriv) acc.write = .denied →
    x = acc.raises va permissionFault) ∧
  (s.policyOf d1 = 1 → permission ap2 ap10 (s.privileged && !acc.unpriv) acc.write = .reserved →
    x = .halt (.unpredictable .apReserved)) ∧
  ((s.policyOf d1 = 3 ∨
      (s.policyOf d1 = 1 ∧ permission ap2 ap10 (s.privileged && !acc.unpriv) acc.write = .allowed)) →
    (acc.fetch && xn && s.params.enforceXn) = true → x = acc.raises va permissionFault)

/-! ### CP15 -/

/-- R61: the registers and operations of one CRn, opc1, CRm and access class, each with its opc2. -/
structure Cp15Line where
  crn : BitVec 4
  opc1 : BitVec 3
  crm : BitVec 4
  access : AccessClass
  names : List (BitVec 3 × Cp15Name)

/-- R61: the identification registers and the operations that PL1 may only read or only write. -/
def cp15OneWay : List Cp15Line := [
  ⟨0, 0, 0, .ro1, [(0, .midr), (1, .ctr), (2, .tcmtr), (3, .tlbtr), (5, .mpidr)]⟩,
  ⟨0, 0, 1, .ro1, [(0, .idPfr0), (1, .idPfr1), (2, .idDfr0), (3, .idAfr0),
    (4, .idMmfr0), (5, .idMmfr1), (6, .idMmfr2), (7, .idMmfr3)]⟩,
  ⟨0, 0, 2, .ro1, [(0, .idIsar0), (1, .idIsar1), (2, .idIsar2), (3, .idIsar3), (4, .idIsar4), (5, .idIsar5)]⟩,
  ⟨0, 1, 0, .ro1, [(0, .ccsidr), (1, .clidr)]⟩,
  ⟨7, 0, 1, .wo1, [(0, .maintenance .iciAllUIs), (6, .maintenance .bpiAllIs)]⟩,
  ⟨7, 0, 5, .wo1, [(0, .maintenance .iciAllU), (1, .maintenance .icimvaU), (6, .maintenance .bpiAll),
    (7, .maintenance .bpimva)]⟩,
  ⟨7, 0, 6, .wo1, [(1, .maintenance .dcimvac), (2, .maintenance .dcisw)]⟩,
  ⟨7, 0, 10, .wo1, [(1, .maintenance .dccmvac), (2, .maintenance .dccsw)]⟩,
  ⟨7, 0, 11, .wo1, [(1, .maintenance .dccmvau)]⟩,
  ⟨7, 0, 14, .wo1, [(1, .maintenance .dccimvac), (2, .maintenance .dccisw)]⟩,
  ⟨8, 0, 3, .wo1, [(0, .maintenance .tlbiAllIs), (1, .maintenance .tlbimvaIs), (2, .maintenance .tlbiAsidIs),
    (3, .maintenance .tlbimvaaIs)]⟩,
  ⟨8, 0, 5, .wo1, [(0, .maintenance .itlbiAll), (1, .maintenance .itlbimva), (2, .maintenance .itlbiAsid)]⟩,
  ⟨8, 0, 6, .wo1, [(0, .maintenance .dtlbiAll), (1, .maintenance .dtlbimva), (2, .maintenance .dtlbiAsid)]⟩,
  ⟨8, 0, 7, .wo1, [(0, .maintenance .tlbiAll), (1, .maintenance .tlbimva), (2, .maintenance .tlbiAsid),
    (3, .maintenance .tlbimvaa)]⟩]

/-- R61: the registers that PL1 may read and write, and those that PL0 may reach. -/
def cp15TwoWay : List Cp15Line := [
  ⟨0, 2, 0, .rw1, [(0, .csselr)]⟩,
  ⟨1, 0, 0, .rw1, [(0, .sctlr), (1, .actlr), (2, .cpacr)]⟩,
  ⟨2, 0, 0, .rw1, [(0, .ttbr0), (1, .ttbr1), (2, .ttbcr)]⟩,
  ⟨3, 0, 0, .rw1, [(0, .dacr)]⟩,
  ⟨5, 0, 0, .rw1, [(0, .dfsr), (1, .ifsr)]⟩,
  ⟨6, 0, 0, .rw1, [(0, .dfar), (2, .ifar)]⟩,
  ⟨10, 0, 2, .rw1, [(0, .prrr), (1, .nmrr)]⟩,
  ⟨13, 0, 0, .rw1, [(1, .contextidr), (4, .tpidrprw)]⟩,
  ⟨13, 0, 0, .rw0, [(2, .tpidrurw)]⟩,
  ⟨13, 0, 0, .ro0w1, [(3, .tpidruro)]⟩,
  ⟨7, 0, 5, .wo0, [(4, .barrier .isb)]⟩,
  ⟨7, 0, 10, .wo0, [(4, .barrier .dsb), (5, .barrier .dmb)]⟩]

/-- R61: the table gives the key this register or operation, with this access class. -/
def Cp15Key.names (k : Cp15Key) (name : Cp15Name) (access : AccessClass) : Prop :=
  ∃ l ∈ cp15OneWay ++ cp15TwoWay, l.crn = k.crn ∧ l.opc1 = k.opc1 ∧ l.crm = k.crm ∧ l.access = access ∧
    (k.opc2, name) ∈ l.names

/-- R61 to R76: what an MRC of a register reads after an MCR of `v` to it: SCTLR keeps its fixed bits, TTBCR and CSSELR their
fields, CPACR reads zero, every other writable register reads back what was written. -/
def readBack (cfgnmfi : Bool) (n : Cp15Name) (v : Word) : Option Word :=
  match n with
  | .sctlr => some ((v &&& 0x73207C27) ||| 0x00C50058 ||| (if cfgnmfi then 0x08000000 else 0))
  | .ttbcr => some (v &&& 0x80000037)
  | .csselr => some (v &&& 0xF)
  | .cpacr => some 0
  | .actlr | .ttbr0 | .ttbr1 | .dacr | .dfsr | .ifsr | .dfar | .ifar | .prrr | .nmrr | .contextidr | .tpidrurw
  | .tpidruro | .tpidrprw => some v
  | _ => none

end Machine
end Sys2Proof
end

