-- ==== Sys2Proof/Certificates/Slice0/Obligations.lean ====
section
/-! DEFINITION. The statements, from the numbered rules of the spec. Their shared terms are in Sys2Proof/Claims.lean. -/

open Sys2Proof Sys2Proof.Machine

/-! ### Encoding -/

/-- R161, R164 to R178: no bit of an encoding is lost: the word of a well-formed instruction decodes to it. -/
def Obligations.DecodeOfEncodeIsTheInstruction : Prop :=
  ∀ i : Instr, i.wf = true → decode (encode i) = i

/-- R161: every one of the 2^32 words decodes to a well-formed instruction of one row, whose word it is. -/
def Obligations.EveryWordIsAnInstruction : Prop :=
  ∀ w : Word, (decode w).wf = true ∧ encode (decode w) = w ∧ rowIndex w = (decode w).row

/-- Words of the examples of the instruction rules decode to the instructions they stand for. -/
def Obligations.SampleWordsDecode : Prop :=
  decode 0xE0110002 = .andReg { cond := 14, s := true, rn := 1, rd := 0, imm5 := 0, type := 0, rm := 2 } ∧
  decode 0xE2510007 = .subImm { cond := 14, s := true, rn := 1, rd := 0, imm12 := 7 } ∧
  decode 0xE0810392 = .umull { cond := 14, s := false, rdHi := 1, rdLo := 0, rm := 3, rn := 2 } ∧
  decode 0xE7CB0411 = .bfi { cond := 14, msb := 11, rd := 0, lsb := 8, rn := 1 } ∧
  decode 0xE5B10004 = .ldrImm { cond := 14, p := true, u := true, w := true, rn := 1, rt := 0, imm12 := 4 } ∧
  decode 0xE1C120F8 = .strdImm { cond := 14, p := true, u := true, w := false, rn := 1, rt := 2, imm4H := 0, imm4L := 8 } ∧
  decode 0xE8BD8010 = .ldm { cond := 14, w := true, rn := 13, registers := 0x8010 } ∧
  decode 0xEB00003E = .bl { cond := 14, imm24 := 0x3E } ∧
  decode 0xF1080080 =
    .cps { imod := 2, m := false, sbz15_9 := 0, a := false, i := true, f := false, mode := 0 } ∧
  decode 0xEE010F10 = .mcrP15 { cond := 14, opc1 := 0, crn := 1, rt := 0, opc2 := 0, crm := 0 } ∧
  decode 0xE7F000F0 = .udf { cond := 14, imm12 := 0, imm4 := 0 }

/-! ### The step -/

/-- R14, R121: a core that is neither halted nor waiting and takes no interrupt runs the instruction that the bytes at
the translated PC decode to; the step adds nothing to it but, where reads of some addresses have side effects, the count that
lets the next step draw its own bytes there (log entry 6). -/
def Obligations.StepRunsTheDecodedInstruction : Prop :=
  ∀ (s : State) (i : Instr) (pa : Word),
    s.halted = none → s.waiting = false → (s.fiqPending = true → psrF s.cpsr = true) →
    (s.irqPending = true → psrI s.cpsr = true) → s.pcAligned = true → s.translate s.pc fetchAccess = .pa pa →
    let byte := s.portByte (fetchAccess.reading .bytes s.pc)
    decodeBytes [byte pa, byte (pa + 1), byte (pa + 2), byte (pa + 3)] = .ok (i, []) →
    step s = Out.ticked (exec i s) ∧ (s.params.volatile = [] → step s = exec i s)

/-- R580: what reset leaves, for every draw of what it leaves UNKNOWN. -/
def Obligations.ResetLeavesTheResetState : Prop :=
  ∀ (s : State) (d : ResetDraw), let t := s.hostReset d
    t.cells = d.cells ∧
    psrM t.cpsr = 0b10011 ∧ psrI t.cpsr = true ∧ psrF t.cpsr = true ∧ psrA t.cpsr = true ∧
    psrT t.cpsr = false ∧ psrE t.cpsr = false ∧ t.cpsr &&& itMask = 0 ∧ psrJ t.cpsr = false ∧
    t.cpsr.extractLsb' 27 5 = d.nzcvq ∧ t.cpsr.extractLsb' 16 4 = d.ge ∧ t.cpsr.extractLsb' 20 4 = 0 ∧
    t.spsr = { fiq := d.spsrFiq, irq := d.spsrIrq, svc := d.spsrSvc, mon := d.spsrMon, abt := d.spsrAbt, und := d.spsrUnd } ∧
    t.cp15.sctlr = 0x00C50078 ||| (BitVec.ofNat 32 s.params.vinithi.toNat <<< 13)
      ||| (BitVec.ofNat 32 s.params.cfgnmfi.toNat <<< 27) ∧
    t.cp15.ttbcr = 0 ∧ t.cp15Read .cpacr = 0 ∧
    (t.cp15.ttbr0 = d.ttbr0 ∧ t.cp15.ttbr1 = d.ttbr1 ∧ t.cp15.dacr = d.dacr ∧ t.cp15.dfsr = d.dfsr ∧
      t.cp15.ifsr = d.ifsr ∧ t.cp15.dfar = d.dfar ∧ t.cp15.ifar = d.ifar ∧ t.cp15.contextidr = d.contextidr ∧
      t.cp15.prrr = d.prrr ∧ t.cp15.nmrr = d.nmrr ∧ t.cp15.tpidrurw = d.tpidrurw ∧ t.cp15.tpidruro = d.tpidruro ∧
      t.cp15.tpidrprw = d.tpidrprw ∧ t.cp15.csselr = d.csselr) ∧
    t.cp15.actlr = s.params.actlrReset ∧ t.params = s.params ∧ t.pendingBranch = none ∧ t.irqPending = false ∧
    t.fiqPending = false ∧ t.monitor = .idle ∧ t.waiting = false ∧ t.halted = none ∧
    t.pc = (if s.params.vinithi then 0xFFFF0000 else 0x00000000) ∧ t.mem = s.mem

/-- The state after reset, whatever the parameters, the draw and a canonical memory, has the invariant. -/
def Obligations.ResetHasTheInvariant : Prop :=
  ∀ (p : Params) (d : ResetDraw) (m : Memory) (n : Nat), m.wf = true → (State.resetFrom p d m n).inv = true

/-- R35, R36, R37, R43, R44, R62, R63, R66, and the canonical form of memory: every step from any state that has the
invariant ends in a state that has it: a word-aligned PC, one of the eight modes, ARM state, the reserved bits of CPSR
zero, the fixed bits of SCTLR and TTBCR at their values, no PC write left pending. -/
def Obligations.StepKeepsTheInvariant : Prop :=
  ∀ s t : State, s.inv = true → step s = .next t → t.inv = true

/-! ### Rules of the whole machine -/

/-- R546, R521: User mode is left only by exception entry: into the mode of the exception, at its vector, with I set and the
old CPSR in its SPSR. -/
def Obligations.UserModeIsLeftOnlyByExceptionEntry : Prop :=
  ∀ s t : State, s.privileged = false → step s = .next t → t.privileged = true →
    ∃ kind : ExcKind, psrM t.cpsr = kind.mode.bits ∧ psrI t.cpsr = true ∧ t.spsr.get kind.mode = some s.cpsr ∧
      t.pc = (if s.cp15.sctlr.getLsbD 13 then 0xFFFF0000 else 0x00000000) + kind.offset

/-- R545: no step that stays in User mode changes CPSR.A, I, F or M, an SPSR, a banked register of another mode, or a CP15
register other than TPIDRURW. -/
def Obligations.UserModeKeepsPrivilegedState : Prop :=
  ∀ s t : State, s.privileged = false → step s = .next t → t.privileged = false →
    t.cpsr &&& 0x1DF = s.cpsr &&& 0x1DF ∧ t.spsr = s.spsr ∧
    t.cp15 = { s.cp15 with tpidrurw := t.cp15.tpidrurw } ∧
    ∀ k : Fin 32, 15 ≤ k.val → t.cells.get k = s.cells.get k

/-- R101, R104: an instruction that is not a store leaves every byte of memory as it was. -/
def Obligations.OnlyStoresChangeMemory : Prop :=
  ∀ (i : Instr) (s t : State), i.mayStore = false → exec i s = .next t →
    ∀ a : Word, t.mem.read a = s.mem.read a

/-- R51, R540, R50, R43: only LDREX, STREX and CLREX change the exclusive monitor; no instruction clears or sets an interrupt
latch, changes a parameter or the terminal state, or leaves a PC write pending; only WFI starts a wait. -/
def Obligations.InstructionsKeepTheLatches : Prop :=
  ∀ (i : Instr) (s t : State), exec i s = .next t →
    t.irqPending = s.irqPending ∧ t.fiqPending = s.fiqPending ∧ t.halted = s.halted ∧ t.params = s.params ∧
    t.pendingBranch = none ∧ ((∀ o, i ≠ .wfi o) → t.waiting = s.waiting) ∧
    (i.mayChangeMonitor = false → t.monitor = s.monitor)

/-- R48: N, Z, C, V, Q and GE are written only by the instructions that the rule names, and of each only the flags it
names. -/
def Obligations.OnlyNamedFlagsChange : Prop :=
  ∀ (i : Instr) (s t : State), exec i s = .next t →
    t.cpsr &&& (0xF80F0000 &&& ~~~i.flagsWritten) = s.cpsr &&& (0xF80F0000 &&& ~~~i.flagsWritten)

/-- R60, R78, R521, R46: a CP15 register changes only by MCR or by the fault recorder of a data abort, an SPSR only by MSR or
by the entry of an exception, which saves CPSR there. -/
def Obligations.OnlyNamedInstructionsChangeSystemRegisters : Prop :=
  ∀ (i : Instr) (s t : State), exec i s = .next t →
    ((∀ o, i ≠ .mcrP15 o) → t.cp15 = s.cp15 ∨
      ∃ va status write, t.cp15 = (s.setMemoryAbort va status write).cp15 ∧ t.spsr.get .abt = some s.cpsr ∧
        t.pc = s.vectorBase + 0x10) ∧
    (t.spsr = s.spsr ∨
      (∃ kind : ExcKind, t.spsr = s.spsr.set kind.mode s.cpsr ∧ t.pc = s.vectorBase + kind.offset) ∨
      (i.writesSpsr = true ∧ ∃ v, t.spsr = s.spsr.set s.mode v))

/-- R13: an instruction whose condition fails only advances the PC by 4. -/
def Obligations.FailedConditionOnlyAdvances : Prop :=
  ∀ (i : Instr) (s : State), i.unpredictable = false → i.passes s = false →
    exec i s = .next { s with pc := s.pc + 4, pendingBranch := none }

/-- R190, R161: an UNPREDICTABLE encoding halts, whatever its condition. That the register and field combinations of the
instruction rules count as encodings, and so halt before the condition, is the model's reading of R161 and R190 against R13 (log
entry 8); so is that QADD, SWP and SMC with a violated should-be field halt as UNPREDICTABLE (log entry 24). -/
def Obligations.UnpredictableEncodingsHalt : Prop :=
  ∀ (i : Instr) (s : State), i.unpredictable = true → ∃ c, exec i s = .fault (.unpredictable c)

/-! ### Registers and status registers -/

/-- R32, R9, R44: which copies of a register the modes share: a write in one mode is seen in another exactly if the table gives both
the same cell; R[i] is the copy of the current mode, R[15] the PC plus 8. -/
def Obligations.ModesSeeTheirOwnRegisters : Prop :=
  (∀ (s : State) (m m' : Mode) (i j : Reg) (v : Word), i ≠ pcReg → j ≠ pcReg →
    (s.setRmode m i v).rmode m' j = if i = j ∧ sameCopy i m m' = true then v else s.rmode m' j) ∧
  (∀ (s : State) (m : Mode) (i : Reg) (v : Word), i ≠ pcReg → psrM s.cpsr = m.bits →
    s.reg i = s.rmode m i ∧ s.setReg i v = s.setRmode m i v) ∧
  (∀ s : State, s.reg pcReg = s.pc + 8)

/-- R47: the condition table. -/
def Obligations.ConditionTable : Prop :=
  ∀ w : Word,
    let n := w.getLsbD 31
    let z := w.getLsbD 30
    let c := w.getLsbD 29
    let v := w.getLsbD 28
    conditionPassed 0 w = z ∧ conditionPassed 1 w = !z ∧ conditionPassed 2 w = c ∧ conditionPassed 3 w = !c ∧
    conditionPassed 4 w = n ∧ conditionPassed 5 w = !n ∧ conditionPassed 6 w = v ∧ conditionPassed 7 w = !v ∧
    conditionPassed 8 w = (c && !z) ∧ conditionPassed 9 w = (!c || z) ∧ conditionPassed 10 w = (n == v) ∧
    conditionPassed 11 w = (n != v) ∧ conditionPassed 12 w = (!z && n == v) ∧ conditionPassed 13 w = (z || n != v) ∧
    conditionPassed 14 w = true ∧ conditionPassed 15 w = true

/-- R39, R46, R38, R33, R451, R452: MSR replaces exactly the bits of CPSR that its mask, the privilege and NMFI admit, or the
bits of the SPSR of the current mode that its mask admits; it halts for a mode that is none and where there is no SPSR. That the
halt of an SPSR write with a bad mode is named BadMode, as R33 names a mode change's, is the model's choice: R46 says
UNPREDICTABLE only (log entry 9). -/
def Obligations.MsrWritesUnderItsMask : Prop :=
  (∀ (i : Instr) (mask : BitVec 4) (value : State → Word) (s : State), IsMsr i false mask value → i.runs s →
     s.armState = true →
     (mask.getLsbD 0 = true → s.privileged = true → badMode (psrM (value s)) = true →
       exec i s = .fault (.unpredictable .badMode)) ∧
     ((mask.getLsbD 0 = true → s.privileged = true → badMode (psrM (value s)) = false) →
       ∃ c, exec i s = .next (State.advance { s with cpsr := c }) ∧
         ∀ j, j < 32 → c.getLsbD j =
           if s.cpsrBitWritten mask ((value s).getLsbD 6) j then (value s).getLsbD j else s.cpsr.getLsbD j)) ∧
  (∀ (i : Instr) (mask : BitVec 4) (value : State → Word) (s : State), IsMsr i true mask value → i.runs s →
     (s.spsr.get s.mode = none → exec i s = .fault (.unpredictable .noSPSR)) ∧
     ∀ old, s.spsr.get s.mode = some old →
       (mask.getLsbD 0 = true → badMode (psrM (value s)) = true → exec i s = .fault (.unpredictable .badMode)) ∧
       ((mask.getLsbD 0 = true → badMode (psrM (value s)) = false) →
         ∃ w, exec i s = .next (State.advance { s with spsr := s.spsr.set s.mode w }) ∧
           ∀ j, j < 32 → w.getLsbD j = if spsrBitWritten mask j then (value s).getLsbD j else old.getLsbD j))

/-- R450, R38: MRS reads CPSR without its execution-state bits, or the SPSR of the current mode; it halts in User and
System. -/
def Obligations.MrsReadsAStatusRegister : Prop :=
  ∀ (o : MrsOp) (s : State), (Instr.mrs o).runs s →
    (o.r = false → exec (.mrs o) s = .next (s.setReg o.rd (s.cpsr &&& 0xF8FF03DF)).advance) ∧
    (o.r = true → (s.mode = .usr ∨ s.mode = .sys) → exec (.mrs o) s = .fault (.unpredictable .noSPSR)) ∧
    (o.r = true → ∀ v, s.spsr.get s.mode = some v → exec (.mrs o) s = .next (s.setReg o.rd v).advance)

/-- R453, R454: CPS sets or clears the selected masks and replaces the mode, under the NMFI gate, does nothing in User mode
and halts for a mode that is none; SETEND writes E. -/
def Obligations.CpsAndSetendChangeTheirFields : Prop :=
  (∀ (o : CpsOp) (s : State), (Instr.cps o).runs s →
    let newMode : BitVec 5 := if o.m then o.mode else psrM s.cpsr
    let change := o.imod.getLsbD 1
    let value := o.imod.getLsbD 0
    (s.privileged = false → exec (.cps o) s = .next s.advance) ∧
    (s.privileged = true → badMode newMode = true → exec (.cps o) s = .fault (.unpredictable .badMode)) ∧
    (s.privileged = true → badMode newMode = false → s.armState = true →
      ∃ c, exec (.cps o) s = .next (State.advance { s with cpsr := c }) ∧
        ∀ j, j < 32 → c.getLsbD j =
          if change && ((j == 8 && o.a) || (j == 7 && o.i) || (j == 6 && o.f && !s.blocksF value)) then value
          else if o.m && decide (j ≤ 4) then o.mode.getLsbD j
          else s.cpsr.getLsbD j)) ∧
  (∀ (o : SetendOp) (s : State), (Instr.setend o).runs s →
    ∃ c, exec (.setend o) s = .next (State.advance { s with cpsr := c }) ∧
      ∀ j, j < 32 → c.getLsbD j = if j = 9 then o.e else s.cpsr.getLsbD j)

/-! ### Exceptions -/

/-- R521, R522: the entry of each exception: its mode, vector and masks, the saved CPSR, the new mode's LR, the other fields
and registers as they were; with SCTLR.TE = 1 the core halts instead. -/
def Obligations.ExceptionEntry : Prop :=
  ∀ (kind : ExcKind) (lr : Word) (s : State),
    let row : BitVec 5 × Word × Bool × Bool :=
      match kind with
      | .undefined => (0b11011, 0x04, false, false)
      | .supervisorCall => (0b10011, 0x08, false, false)
      | .prefetchAbort => (0b10111, 0x0C, false, true)
      | .dataAbort => (0b10111, 0x10, false, true)
      | .irq => (0b10010, 0x18, false, true)
      | .fiq => (0b10001, 0x1C, true, true)
    (s.cp15.sctlr.getLsbD 30 = true → takeException kind lr s = .fault (.notImplemented .thumb)) ∧
    (s.cp15.sctlr.getLsbD 30 = false →
      ∃ t, takeException kind lr s = .next t ∧ t = s.enter kind lr ∧
        psrM t.cpsr = row.1 ∧
        (∀ (m : Mode) (i : Reg), i ≠ pcReg →
          t.rmode m i = if i = 14 ∧ sameCopy 14 m kind.mode = true then lr else s.rmode m i) ∧
        (∀ m : Mode, t.spsr.get m = if m = kind.mode then some s.cpsr else s.spsr.get m) ∧
        psrI t.cpsr = true ∧ psrF t.cpsr = (psrF s.cpsr || row.2.2.1) ∧ psrA t.cpsr = (psrA s.cpsr || row.2.2.2) ∧
        t.cpsr &&& itMask = 0 ∧ psrJ t.cpsr = false ∧ psrT t.cpsr = false ∧ psrE t.cpsr = s.cp15.sctlr.getLsbD 25 ∧
        t.cpsr &&& 0xF8FF0000 = s.cpsr &&& 0xF8FF0000 ∧
        t.pc = (if s.cp15.sctlr.getLsbD 13 then 0xFFFF0000 else 0x00000000) + row.2.1 ∧
        t.pendingBranch = none ∧ t.monitor = s.monitor ∧ t.cp15 = s.cp15 ∧ t.mem = s.mem ∧
        t.irqPending = s.irqPending ∧ t.fiqPending = s.fiqPending ∧ t.waiting = s.waiting)

/-- R78, R118, R532, R533: an abort records the address in both fault address registers and the direction with the fault's
code in both fault status registers, and is taken with LR = PC + 8 (data) or PC + 4 (prefetch). -/
def Obligations.AbortsAreRecorded : Prop :=
  ∀ (s : State) (va : Word) (status : FaultStatus) (write : Bool),
    let fsr := (if write then 0x800 else 0) ||| faultCode status
    s.setMemoryAbort va status write
      = { s with cp15 := { s.cp15 with dfar := va, dfsr := fsr, ifar := va, ifsr := fsr } } ∧
    raise (.dataAbort va status write) s = takeException .dataAbort (s.pc + 8) (s.setMemoryAbort va status write) ∧
    raise (.prefetchAbort va status) s = takeException .prefetchAbort (s.pc + 4) (s.setMemoryAbort va status false)

/-- R541, R534, R535, R525, R14: an unmasked pending interrupt, FIQ before IRQ, is taken in place of the fetch, its latch
cleared and LR the PC plus 4; with SCTLR.VE = 1 the core halts; without one the step fetches. -/
def Obligations.InterruptsAreAcceptedAtTheBoundary : Prop :=
  ∀ s : State, s.halted = none → s.waiting = false →
    let fiq := s.fiqPending && !s.cpsr.getLsbD 6
    let irq := s.irqPending && !s.cpsr.getLsbD 7
    (fiq = true → step s =
      if s.cp15.sctlr.getLsbD 24 then .fault (.notImplemented .vectoredInterrupts)
      else takeException .fiq (s.pc + 4) { s with fiqPending := false }) ∧
    (fiq = false → irq = true → step s =
      if s.cp15.sctlr.getLsbD 24 then .fault (.notImplemented .vectoredInterrupts)
      else takeException .irq (s.pc + 4) { s with irqPending := false }) ∧
    (fiq = false → irq = false → step s = fetchAndExecute s)

/-- R467, R5: WFI waits unless an interrupt is pending, masked or not; a waiting core is woken by one and otherwise waits (a
model may end the wait: log entry 21); a halted core takes no step. -/
def Obligations.WaitForInterrupt : Prop :=
  (∀ (o : HintOp) (s : State), (Instr.wfi o).runs s →
    exec (.wfi o) s = .next (State.advance { s with waiting := s.waiting || !(s.irqPending || s.fiqPending) })) ∧
  (∀ s : State, s.halted = none → s.waiting = true →
    ((s.irqPending || s.fiqPending) = true → step s = step { s with waiting := false }) ∧
    ((s.irqPending || s.fiqPending) = false →
      step s = .next { s with draws := s.draws + 1 } ∨
      step s = step { s with waiting := false, draws := s.draws + 1 })) ∧
  (∀ (s : State) (f : Fault), s.halted = some f → step s = .fault f)

/-- R191, R496, R501, R530: an UNDEFINED encoding, whatever its condition, and an instruction of an absent coprocessor, if
its condition passes, enter the Undefined Instruction exception with LR = PC + 4; with SCTLR.TE = 1 the entry halts (R521, R528). -/
def Obligations.UndefinedInstructionsTrap : Prop :=
  ∀ (i : Instr) (s : State), i.isUndefined = true → i.passes s = true →
    exec i s = takeException .undefined (s.pc + 4) s ∧
    (s.cp15.sctlr.getLsbD 30 = true → exec i s = .fault (.notImplemented .thumb)) ∧
    (s.cp15.sctlr.getLsbD 30 = false → exec i s = .next (s.enter .undefined (s.pc + 4)))

/-- R531, R500: SVC, if its condition passes, enters the Supervisor Call exception with LR = PC + 4. -/
def Obligations.SupervisorCallEntersSvcMode : Prop :=
  ∀ (o : BranchOp) (s : State), conditionPassed o.cond s.cpsr = true →
    exec (.svc o) s = takeException .supervisorCall (s.pc + 4) s ∧
    (s.cp15.sctlr.getLsbD 30 = false → exec (.svc o) s = .next (s.enter .supervisorCall (s.pc + 4)))

/-- R533, R121: a fetch whose translation faults takes a prefetch abort in the same step, recorded at the PC, LR = PC + 4 (the
step counts on where reads of some addresses have side effects: log entry 6); where its translation halts, so does the step. -/
def Obligations.FetchFaultsArePrefetchAborts : Prop :=
  ∀ s : State, s.halted = none → s.waiting = false → (s.fiqPending = true → psrF s.cpsr = true) →
    (s.irqPending = true → psrI s.cpsr = true) → s.pcAligned = true →
    (∀ e, s.translate s.pc fetchAccess = .abort e →
      ∃ status, e = .prefetchAbort s.pc status ∧
        step s = Out.ticked (takeException .prefetchAbort (s.pc + 4) (s.setMemoryAbort s.pc status false))) ∧
    (∀ f, s.translate s.pc fetchAccess = .halt f → step s = .fault f)

/-- R527, R223: a data-processing instruction with S = 1 and Rd = 15 returns from the exception to its result: CPSR from the
SPSR of the mode, the PC at the result, nothing else; it halts without an SPSR, for an unaligned target, and for an SPSR whose
mode is none or that would leave ARM state (R39, R37; J with T or IT halts as Thumb: log entry 18). -/
def Obligations.DataProcessingExceptionReturn : Prop :=
  (∀ (op : DpOp) (f : DpForm), f.setsFlags = true → f.rd = pcReg →
    ReturnsTo (op.instr f) fun s => op.result (s.reg f.rn) (f.operand s).1 (psrC s.cpsr)) ∧
  (∀ o : MovImm, o.s = true → o.rd = pcReg →
    ReturnsTo (.movImm o) (fun s => (operandImm o.imm12 s).1) ∧
    ReturnsTo (.mvnImm o) (fun s => ~~~(operandImm o.imm12 s).1)) ∧
  (∀ o : MovReg, o.s = true → o.rd = pcReg →
    ReturnsTo (.movReg o) (fun s => s.reg o.rm) ∧ ReturnsTo (.rrx o) (fun s => (s.shifted o.rm .rrx 1).1)) ∧
  (∀ o : ShiftImm, o.s = true → o.rd = pcReg →
    ReturnsTo (.lslImm o) (fun s => (s.shifted o.rm .lsl o.imm5.toNat).1) ∧
    ReturnsTo (.lsrImm o) (fun s => (s.shifted o.rm .lsr (immAmount o.imm5)).1) ∧
    ReturnsTo (.asrImm o) (fun s => (s.shifted o.rm .asr (immAmount o.imm5)).1) ∧
    (o.imm5 ≠ 0 → ReturnsTo (.rorImm o) (fun s => (s.shifted o.rm .ror o.imm5.toNat).1))) ∧
  (∀ o : MvnReg, o.s = true → o.rd = pcReg → ReturnsTo (.mvnReg o) fun s => ~~~(operandReg o.rm o.type o.imm5 s).1)

/-- R521, R522, R527: the return instruction that the table gives an exception (SUBS pc, lr, #n) undoes its entry: CPSR as it
was, the PC at LR minus n, every register as it was but the LR of the exception's mode, memory and CP15 as they were. -/
def Obligations.ReturnUndoesExceptionEntry : Prop :=
  ∀ (kind : ExcKind) (lr : Word) (n : BitVec 8) (s t : State), s.inv = true → s.cp15.sctlr.getLsbD 27 = false →
    takeException kind lr s = .next t → (lr - n.setWidth 32).extractLsb' 0 2 = 0 →
    ∃ u, exec (.subImm { cond := 14, s := true, rn := 14, rd := 15, imm12 := n.setWidth 12 }) t = .next u ∧
      u.cpsr = s.cpsr ∧ u.pc = lr - n.setWidth 32 ∧ u.mem = s.mem ∧ u.cp15 = s.cp15 ∧
      ∀ (m : Mode) (i : Reg), i ≠ pcReg → ¬ (i = 14 ∧ sameCopy 14 m kind.mode = true) → u.rmode m i = s.rmode m i

/-- R421, R527, R38: LDM (exception return) loads the registers of the mode it starts in, writes its base back, and returns to
the last word read; it halts for an unaligned last word and for an SPSR that no CPSR may take (R39, R37), in User and System
mode, and where a read halts. Two names are the model's choices: that an SPSR with J and one of T, IT halts as Thumb, an order
R37 does not give (log entry 18), and that in User and System mode R38's NoSPSR is reported, where R421 says UNPREDICTABLE only
(log entry 9). -/
def Obligations.LdmExceptionReturn : Prop :=
  ∀ (o : LdmExcOp) (s : State), (Instr.ldmExcReturn o).runs s →
    ((s.mode = .usr ∨ s.mode = .sys) → exec (.ldmExcReturn o) s = .fault (.unpredictable .noSPSR)) ∧
    (s.mode ≠ .usr → s.mode ≠ .sys → BlockLoadHalts (.ldmExcReturn o) s
      (blockFrom o.p o.u (s.reg o.rn) (listCount o.registers + 1)) (listCount o.registers + 1)) ∧
    ∀ (spsr : Word) (value : Nat → Word), s.spsr.get s.mode = some spsr →
      s.readsBlock (blockFrom o.p o.u (s.reg o.rn) (listCount o.registers + 1)) (listCount o.registers + 1) value →
      ReturnEnds spsr (value (listCount o.registers)) (exec (.ldmExcReturn o) s)
        (∃ cells c,
          exec (.ldmExcReturn o) s
            = .next { s with cells := cells, cpsr := c, pc := value (listCount o.registers), pendingBranch := none } ∧
          s.loadedBlock s.mode o.registers value o.rn
            (if o.w then some (blockBack o.u (s.reg o.rn) (listCount o.registers + 1)) else none) cells ∧
          s.returnedCpsr spsr c)

/-! ### Memory and translation -/

/-- R103, R100, R105: a value read is the sum of its bytes, lowest address least significant: each the byte that memory holds,
but, where reads have side effects, a free one (the model's form of R105: log entry 6); a write stores exactly its bytes and
keeps every other byte, and the canonical form of the model's own memory list (log entry 5). -/
def Obligations.MemoryIsLittleEndianBytes : Prop :=
  ∀ (s : State) (r : PortRead) (pa v : Word) (w : Width), s.memoryCanonical = true →
    (s.physRead r pa w).toNat
      = ((List.range w.bytes).map fun k => (s.portByte r (pa + BitVec.ofNat 32 k)).toNat * 2 ^ (8 * k)).sum ∧
    ((∀ x ∈ s.params.volatile, ¬ (x.first ≤ pa ∧ pa ≤ x.last)) → s.portByte r pa = s.mem.read pa) ∧
    (∀ x ∈ s.params.volatile, x.first ≤ pa → pa ≤ x.last → s.portByte r pa = Config.volatileByte s.draws r pa) ∧
    s.mem.Stored pa w.bytes v (s.physWrite pa w v).mem ∧ (s.physWrite pa w v).memoryCanonical = true

/-- R102, R106, R107, R108: big-endian data halts; an aligned or passed-through access is made at the one address its
translation gives; a strict misaligned access with SCTLR.A = 1 is an alignment fault; a split one is made byte by byte,
each translated, its value read is the sum of its bytes, lowest address least significant (R103), and its first failing byte's
abort or halt is its own; a split write makes the byte writes of its translations,
and where byte `k` aborts has stored the bytes before it. Where the one translation of an aligned or passed-through access
aborts or halts, so does the access, with memory as it was. -/
def Obligations.AccessesFollowTheAlignmentRule : Prop :=
  ∀ (s : State) (va v : Word) (w : Width) (acc : Access),
    (acc.fetch = false → psrE s.cpsr = true →
      memRead va w acc s = .halt (.notImplemented .bigEndian) ∧
      memWrite va w v acc s = .halt (.notImplemented .bigEndian)) ∧
    ((acc.fetch = true ∨ psrE s.cpsr = false) →
      (∀ pa, (va.toNat % w.bytes = 0 ∨ (acc.split = false ∧ s.checkUnaligned = false)) → s.translate va acc = .pa pa →
        memRead va w acc s = .ok (s.physRead (acc.reading .bytes va) pa w) s ∧
        memWrite va w v acc s = .ok () { s with mem := s.mem.writeBytes pa w.bytes v }) ∧
      (va.toNat % w.bytes = 0 ∨ (acc.split = false ∧ s.checkUnaligned = false) →
        (∀ e, s.translate va acc = .abort e → memRead va w acc s = .exc e s ∧ memWrite va w v acc s = .exc e s) ∧
        (∀ f, s.translate va acc = .halt f → memRead va w acc s = .halt f ∧ memWrite va w v acc s = .halt f)) ∧
      (va.toNat % w.bytes ≠ 0 → acc.split = false → s.checkUnaligned = true →
        memRead va w acc s = .exc (.dataAbort va .alignment acc.write) s ∧
        memWrite va w v acc s = .exc (.dataAbort va .alignment acc.write) s) ∧
      (va.toNat % w.bytes ≠ 0 → acc.split = true →
        (∀ pas : Nat → Word, (∀ k, k < w.bytes → s.translate (va + BitVec.ofNat 32 k) acc = .pa (pas k)) →
          let byte (k : Nat) : Byte := s.portByte (acc.reading .bytes (va + BitVec.ofNat 32 k)) (pas k)
          ∃ data, memRead va w acc s = .ok data s ∧
            data.toNat = ((List.range w.bytes).map fun k => (byte k).toNat * 2 ^ (8 * k)).sum ∧
            ∀ k, k < w.bytes → data.extractLsb' (8 * k) 8 = byte k) ∧
        (∀ (k : Nat) (pas : Nat → Word), k < w.bytes →
          (∀ j, j < k → s.translate (va + BitVec.ofNat 32 j) acc = .pa (pas j)) →
          (∀ e, s.translate (va + BitVec.ofNat 32 k) acc = .abort e → memRead va w acc s = .exc e s) ∧
          (∀ f, s.translate (va + BitVec.ofNat 32 k) acc = .halt f → memRead va w acc s = .halt f)) ∧
        (∀ (k : Nat) (σ : Nat → Memory), s.bytesStored va acc v k σ →
          (k = w.bytes → memWrite va w v acc s = .ok () { s with mem := σ k }) ∧
          (k < w.bytes → ∀ e, State.translate { s with mem := σ k } (va + BitVec.ofNat 32 k) acc = .abort e →
            memWrite va w v acc s = .exc e { s with mem := σ k }) ∧
          (k < w.bytes → ∀ f, State.translate { s with mem := σ k } (va + BitVec.ofNat 32 k) acc = .halt f →
            memWrite va w v acc s = .halt f)) ∧
        (s.memoryCanonical = true → s.mmuEnabled = false →
          ∃ m, memWrite va w v acc s = .ok () { s with mem := m } ∧ s.mem.Stored va w.bytes v m)))

/-- R110, R111, R112, R67, R116: the identity with the MMU off; a section and a small page that admit the access give their
base and the low bits of the address. -/
def Obligations.TranslationGivesTheMappedAddress : Prop :=
  ∀ (s : State) (va : Word) (acc : Access),
    (s.mmuEnabled = false → s.translate va acc = .pa va) ∧
    ∀ d1, s.walks acc va d1 →
      (d1.extractLsb' 0 2 = 2 → d1.getLsbD 18 = false →
        s.admits acc d1 (d1.getLsbD 15) (d1.extractLsb' 10 2) (d1.getLsbD 4) →
        s.translate va acc = .pa ((d1 &&& 0xFFF00000) ||| (va &&& 0x000FFFFF))) ∧
      (d1.extractLsb' 0 2 = 1 → ∀ d2, d2 = s.secondLevel acc va d1 → d2.getLsbD 1 = true →
        s.admits acc d1 (d2.getLsbD 9) (d2.extractLsb' 4 2) (d2.getLsbD 0) →
        s.translate va acc = .pa ((d2 &&& 0xFFFFF000) ||| (va &&& 0x00000FFF)))

/-- R110, R113, R115 to R119: where a walk ends without an address: translation faults, refused descriptors, and the domain,
permission and execute checks in their order. -/
def Obligations.TranslationFaultsAndHalts : Prop :=
  ∀ (s : State) (va : Word) (acc : Access),
    (s.mmuEnabled = true → s.cp15.ttbcr.getLsbD 31 = true → s.translate va acc = .halt (.notImplemented .lpae)) ∧
    (s.mmuEnabled = true → s.cp15.ttbcr.getLsbD 31 = false → s.cp15.sctlr.getLsbD 29 = true →
      s.translate va acc = .halt (.notImplemented .accessFlag)) ∧
    (s.mmuEnabled = true → s.cp15.ttbcr.getLsbD 31 = false → s.cp15.sctlr.getLsbD 29 = false →
      ((s.walksTtbr0 va ∧ s.cp15.ttbcr.getLsbD 4 = true) ∨ (¬ s.walksTtbr0 va ∧ s.cp15.ttbcr.getLsbD 5 = true)) →
      s.translate va acc = .halt (.notImplemented .walkDisable)) ∧
    ∀ d1, s.walks acc va d1 →
      ((d1.extractLsb' 0 2 = 0 ∨ d1.extractLsb' 0 2 = 3) → s.translate va acc = acc.raises va .translationSection) ∧
      (d1.extractLsb' 0 2 = 2 → d1.getLsbD 18 = true → s.translate va acc = .halt (.notImplemented .supersection)) ∧
      (d1.extractLsb' 0 2 = 2 → d1.getLsbD 18 = false →
        s.deniedAt va acc .domainSection .permissionSection d1 (d1.getLsbD 15) (d1.extractLsb' 10 2) (d1.getLsbD 4)
          (s.translate va acc)) ∧
      (d1.extractLsb' 0 2 = 1 → ∀ d2, d2 = s.secondLevel acc va d1 →
        (d2.extractLsb' 0 2 = 0 → s.translate va acc = acc.raises va .translationPage) ∧
        (d2.extractLsb' 0 2 = 1 → s.translate va acc = .halt (.notImplemented .largePage)) ∧
        (d2.getLsbD 1 = true →
          s.deniedAt va acc .domainPage .permissionPage d1 (d2.getLsbD 9) (d2.extractLsb' 4 2) (d2.getLsbD 0)
            (s.translate va acc)))

/-- R115: the permission table: what a privileged and an unprivileged read and write may do under each AP value. -/
def Obligations.PermissionTable : Prop :=
  (∀ priv write : Bool, permission false 0b00 priv write = .denied) ∧
  (∀ priv write : Bool, permission false 0b01 priv write = if priv then .allowed else .denied) ∧
  (∀ priv write : Bool, permission false 0b10 priv write = if priv || !write then .allowed else .denied) ∧
  (∀ priv write : Bool, permission false 0b11 priv write = .allowed) ∧
  (∀ priv write : Bool, permission true 0b00 priv write = .reserved) ∧
  (∀ priv write : Bool, permission true 0b01 priv write = if priv && !write then .allowed else .denied) ∧
  (∀ priv write : Bool, permission true 0b10 priv write = if !write then .allowed else .denied) ∧
  (∀ priv write : Bool, permission true 0b11 priv write = if !write then .allowed else .denied)

/-- R114, R345: an access of an unprivileged form is checked, in any mode, as the same access in User mode is. -/
def Obligations.UnprivilegedAccessesAreCheckedAsUser : Prop :=
  ∀ (s : State) (va : Word) (acc : Access) (w : Word), psrM w = 0b10000 →
    s.translate va { acc with unpriv := true } = State.translate { s with cpsr := w } va acc

/-! ### Data processing -/

/-- R220: AddWithCarry: exact sums, the carry of the unsigned one, the overflow of the signed one; with the complement and
carry in, it subtracts, and the carry says that nothing was borrowed. -/
def Obligations.AddWithCarryIsExact : Prop :=
  ∀ (x y : Word) (c : Bool),
    (addWithCarry x y c).value.toNat + (addWithCarry x y c).carry.toNat * 2 ^ 32 = x.toNat + y.toNat + c.toNat ∧
    (addWithCarry x y c).overflow = outOfRange (x.toInt + y.toInt + c.toNat) ∧
    (addWithCarry x (~~~y) true).value = x - y ∧
    (addWithCarry x (~~~y) true).carry = decide (y.toNat ≤ x.toNat)

/-- R221: Shift_C, bit by bit: the result and the carry of each shift for every amount, amount 0 a no-op. -/
def Obligations.ShiftCarriesTheLastBitOut : Prop :=
  ∀ (x : Word) (n : Nat) (c : Bool) (j : Nat), j < 32 →
    (∀ ty, shiftC x ty 0 c = (x, c)) ∧
    (0 < n →
      (shiftC x .lsl n c).1.getLsbD j = (decide (n ≤ j) && x.getLsbD (j - n)) ∧
      (shiftC x .lsl n c).2 = (decide (n ≤ 32) && x.getLsbD (32 - n)) ∧
      (shiftC x .lsr n c).1.getLsbD j = x.getLsbD (j + n) ∧
      (shiftC x .lsr n c).2 = x.getLsbD (n - 1) ∧
      (shiftC x .asr n c).1.getLsbD j = x.getLsbD (min (j + n) 31) ∧
      (shiftC x .asr n c).2 = x.getLsbD (min (n - 1) 31) ∧
      (shiftC x .ror n c).1.getLsbD j = x.getLsbD ((j + n) % 32) ∧
      (shiftC x .ror n c).2 = x.getLsbD ((31 + n) % 32)) ∧
    (shiftC x .rrx 1 c).1.getLsbD j = (if j = 31 then c else x.getLsbD (j + 1)) ∧
    (shiftC x .rrx 1 c).2 = x.getLsbD 0

/-- R222, R185, R186: the three forms of the shifter operand: the rotated immediate bit by bit, the immediate shift with its
encoded amount, the shift by the low byte of a register. -/
def Obligations.ShifterOperandForms : Prop :=
  ∀ (s : State) (rm rs : Reg) (imm12 : BitVec 12) (imm5 : BitVec 5),
    (∀ j, j < 32 → (operandImm imm12 s).1.getLsbD j
      = (imm12.extractLsb' 0 8).getLsbD ((j + 2 * (imm12.extractLsb' 8 4).toNat) % 32)) ∧
    (operandImm imm12 s).2
      = (if imm12.extractLsb' 8 4 = 0 then s.cpsr.getLsbD 29 else (operandImm imm12 s).1.getLsbD 31) ∧
    operandReg rm 0b00 imm5 s = s.shifted rm .lsl imm5.toNat ∧
    operandReg rm 0b01 imm5 s = s.shifted rm .lsr (immAmount imm5) ∧
    operandReg rm 0b10 imm5 s = s.shifted rm .asr (immAmount imm5) ∧
    operandReg rm 0b11 imm5 s = (if imm5 = 0 then s.shifted rm .rrx 1 else s.shifted rm .ror imm5.toNat) ∧
    operandRsr rm (decodeRegShift 0b00) rs s = s.shifted rm .lsl (s.shiftAmount rs) ∧
    operandRsr rm (decodeRegShift 0b01) rs s = s.shifted rm .lsr (s.shiftAmount rs) ∧
    operandRsr rm (decodeRegShift 0b10) rs s = s.shifted rm .asr (s.shiftAmount rs) ∧
    operandRsr rm (decodeRegShift 0b11) rs s = s.shifted rm .ror (s.shiftAmount rs)

/-- R223, R230 to R237, R242, R244: AND, EOR, SUB, RSB, ADD, ADC, SBC, RSC, ORR and BIC in their three forms, with a destination
other than the PC: the destination, with S = 1 the four flags, and nothing else. -/
def Obligations.DataProcessingResults : Prop :=
  ∀ (op : DpOp) (f : DpForm) (s : State), (op.instr f).runs s → f.rd ≠ pcReg →
    let x := s.reg f.rn
    let y := (f.operand s).1
    exec (op.instr f) s = .next (s.wroteDp f.setsFlags f.rd (op.result x y (psrC s.cpsr))
      (op.carryOut x y (psrC s.cpsr) (f.operand s).2) (op.overflows x y (psrC s.cpsr) (psrV s.cpsr)))

/-- R238 to R241: TST, TEQ, CMP and CMN in their three forms write the four flags and nothing else. -/
def Obligations.CompareResults : Prop :=
  ∀ (op : CmpOp) (f : CmpForm) (s : State), (op.instr f).runs s →
    let x := s.reg f.rn
    let y := (f.operand s).1
    let c := psrC s.cpsr
    let value := op.operation.result x y c
    exec (op.instr f) s = .next (State.advance
      { s with
        cpsr := withNZCV s.cpsr value.msb (value == 0) (op.operation.carryOut x y c (f.operand s).2)
          (op.operation.overflows x y c (psrV s.cpsr)) })

/-- R243, R245 to R256: MOV, MVN, LSL, LSR, ASR, ROR and RRX in every form, with a destination other than the PC, and MOVW and
MOVT. -/
def Obligations.MoveAndShiftResults : Prop :=
  (∀ o : MovImm,
    Moves (.movImm o) o.s o.rd (fun s => (operandImm o.imm12 s).1) (fun s => (operandImm o.imm12 s).2) ∧
    Moves (.mvnImm o) o.s o.rd (fun s => ~~~(operandImm o.imm12 s).1) (fun s => (operandImm o.imm12 s).2)) ∧
  (∀ o : MovReg,
    Moves (.movReg o) o.s o.rd (fun s => s.reg o.rm) (fun s => psrC s.cpsr) ∧
    Moves (.rrx o) o.s o.rd (fun s => (s.shifted o.rm .rrx 1).1) (fun s => (s.shifted o.rm .rrx 1).2)) ∧
  (∀ o : ShiftImm,
    Moves (.lslImm o) o.s o.rd (fun s => (s.shifted o.rm .lsl o.imm5.toNat).1)
      (fun s => (s.shifted o.rm .lsl o.imm5.toNat).2) ∧
    Moves (.lsrImm o) o.s o.rd (fun s => (s.shifted o.rm .lsr (immAmount o.imm5)).1)
      (fun s => (s.shifted o.rm .lsr (immAmount o.imm5)).2) ∧
    Moves (.asrImm o) o.s o.rd (fun s => (s.shifted o.rm .asr (immAmount o.imm5)).1)
      (fun s => (s.shifted o.rm .asr (immAmount o.imm5)).2) ∧
    (o.imm5 ≠ 0 → Moves (.rorImm o) o.s o.rd (fun s => (s.shifted o.rm .ror o.imm5.toNat).1)
      (fun s => (s.shifted o.rm .ror o.imm5.toNat).2))) ∧
  (∀ o : ShiftReg,
    Moves (.lslReg o) o.s o.rd (fun s => (s.shifted o.rm .lsl (s.shiftAmount o.rs)).1)
      (fun s => (s.shifted o.rm .lsl (s.shiftAmount o.rs)).2) ∧
    Moves (.lsrReg o) o.s o.rd (fun s => (s.shifted o.rm .lsr (s.shiftAmount o.rs)).1)
      (fun s => (s.shifted o.rm .lsr (s.shiftAmount o.rs)).2) ∧
    Moves (.asrReg o) o.s o.rd (fun s => (s.shifted o.rm .asr (s.shiftAmount o.rs)).1)
      (fun s => (s.shifted o.rm .asr (s.shiftAmount o.rs)).2) ∧
    Moves (.rorReg o) o.s o.rd (fun s => (s.shifted o.rm .ror (s.shiftAmount o.rs)).1)
      (fun s => (s.shifted o.rm .ror (s.shiftAmount o.rs)).2)) ∧
  (∀ o : MvnReg, Moves (.mvnReg o) o.s o.rd (fun s => ~~~(operandReg o.rm o.type o.imm5 s).1)
    (fun s => (operandReg o.rm o.type o.imm5 s).2)) ∧
  (∀ o : MvnRsr, Moves (.mvnRsr o) o.s o.rd (fun s => ~~~(operandRsr o.rm (decodeRegShift o.type) o.rs s).1)
    (fun s => (operandRsr o.rm (decodeRegShift o.type) o.rs s).2)) ∧
  (∀ (o : MovwOp) (s : State),
    ((Instr.movw o).runs s → exec (.movw o) s = .next (s.setReg o.rd ((o.imm4 ++ o.imm12).setWidth 32)).advance) ∧
    ((Instr.movt o).runs s →
      exec (.movt o) s = .next (s.setReg o.rd ((o.imm4 ++ o.imm12) ++ (s.reg o.rd).setWidth 16)).advance))

/-- R223, R42, R41: a data-processing instruction with S = 0 and Rd = 15 branches to its result, and halts where the result is
no word-aligned address. -/
def Obligations.DataProcessingBranches : Prop :=
  (∀ (op : DpOp) (f : DpForm), f.setsFlags = false → f.rd = pcReg →
    BranchesTo (op.instr f) fun s => op.result (s.reg f.rn) (f.operand s).1 (psrC s.cpsr)) ∧
  (∀ o : MovImm, o.s = false → o.rd = pcReg →
    BranchesTo (.movImm o) (fun s => (operandImm o.imm12 s).1) ∧
    BranchesTo (.mvnImm o) (fun s => ~~~(operandImm o.imm12 s).1)) ∧
  (∀ o : MovReg, o.s = false → o.rd = pcReg →
    BranchesTo (.movReg o) (fun s => s.reg o.rm) ∧ BranchesTo (.rrx o) (fun s => (s.shifted o.rm .rrx 1).1)) ∧
  (∀ o : ShiftImm, o.s = false → o.rd = pcReg →
    BranchesTo (.lslImm o) (fun s => (s.shifted o.rm .lsl o.imm5.toNat).1) ∧
    BranchesTo (.lsrImm o) (fun s => (s.shifted o.rm .lsr (immAmount o.imm5)).1) ∧
    BranchesTo (.asrImm o) (fun s => (s.shifted o.rm .asr (immAmount o.imm5)).1) ∧
    (o.imm5 ≠ 0 → BranchesTo (.rorImm o) (fun s => (s.shifted o.rm .ror o.imm5.toNat).1))) ∧
  (∀ o : MvnReg, o.s = false → o.rd = pcReg →
    BranchesTo (.mvnReg o) fun s => ~~~(operandReg o.rm o.type o.imm5 s).1)

/-- R280 to R286: MUL, MLA and MLS: the product, sum or difference modulo 2^32; UMULL, UMLAL, SMULL and SMLAL: the 64-bit
product or sum in RdHi:RdLo; with S = 1 N and Z of the whole result, and nothing else. -/
def Obligations.MultiplyResults : Prop :=
  (∀ s : State,
     let wrote (rd : Reg) (setflags : Bool) (v : Word) : State := State.advance
       { s.setReg rd v with cpsr := if setflags then withNZ s.cpsr v.msb (v == 0) else s.cpsr }
     (∀ o, (Instr.mul o).runs s → exec (.mul o) s = .next (wrote o.rd o.s (s.reg o.rn * s.reg o.rm))) ∧
     (∀ o, (Instr.mla o).runs s → exec (.mla o) s = .next (wrote o.rd o.s (s.reg o.rn * s.reg o.rm + s.reg o.ra))) ∧
     (∀ o, (Instr.mls o).runs s → exec (.mls o) s = .next (wrote o.rd false (s.reg o.ra - s.reg o.rn * s.reg o.rm)))) ∧
  (∀ (s : State) (o : MulLongOp),
     let wrote (v : BitVec 64) : State := State.advance
       { (s.setReg o.rdHi (v.extractLsb' 32 32)).setReg o.rdLo (v.extractLsb' 0 32) with
         cpsr := if o.s then withNZ s.cpsr v.msb (v == 0) else s.cpsr }
     let uns (r : Reg) : BitVec 64 := (s.reg r).setWidth 64
     let sig (r : Reg) : BitVec 64 := (s.reg r).signExtend 64
     let acc : BitVec 64 := s.reg o.rdHi ++ s.reg o.rdLo
     ((Instr.umull o).runs s → exec (.umull o) s = .next (wrote (uns o.rn * uns o.rm))) ∧
     ((Instr.umlal o).runs s → exec (.umlal o) s = .next (wrote (uns o.rn * uns o.rm + acc))) ∧
     ((Instr.smull o).runs s → exec (.smull o) s = .next (wrote (sig o.rn * sig o.rm))) ∧
     ((Instr.smlal o).runs s → exec (.smlal o) s = .next (wrote (sig o.rn * sig o.rm + acc))))

/-- R305 to R316: the twelve extends: the rotated register's byte, halfword or two bytes, extended, and added where the form
adds; no flag and nothing else changes. -/
def Obligations.ExtendResults : Prop :=
  ∀ s : State,
    let rot (rm : Reg) (r : BitVec 2) : Word := (s.reg rm).rotateRight (8 * r.toNat)
    let sb (v : Word) : Word := (v.extractLsb' 0 8).signExtend 32
    let sh (v : Word) : Word := (v.extractLsb' 0 16).signExtend 32
    let s16 (v : Word) (lo : Nat) : BitVec 16 := (v.extractLsb' lo 8).signExtend 16
    let z16 (v : Word) (lo : Nat) : BitVec 16 := (v.extractLsb' lo 8).setWidth 16
    let hi (v : Word) : BitVec 16 := v.extractLsb' 16 16
    let lo (v : Word) : BitVec 16 := v.extractLsb' 0 16
    let wrote (rd : Reg) (v : Word) : State := (s.setReg rd v).advance
    (∀ o : ExtendOp, let r := rot o.rm o.rotate
      ((Instr.sxtb o).runs s → exec (.sxtb o) s = .next (wrote o.rd (sb r))) ∧
      ((Instr.sxth o).runs s → exec (.sxth o) s = .next (wrote o.rd (sh r))) ∧
      ((Instr.uxtb o).runs s → exec (.uxtb o) s = .next (wrote o.rd (r &&& 0xFF))) ∧
      ((Instr.uxth o).runs s → exec (.uxth o) s = .next (wrote o.rd (r &&& 0xFFFF))) ∧
      ((Instr.sxtb16 o).runs s → exec (.sxtb16 o) s = .next (wrote o.rd (s16 r 16 ++ s16 r 0))) ∧
      ((Instr.uxtb16 o).runs s → exec (.uxtb16 o) s = .next (wrote o.rd (r &&& 0x00FF00FF)))) ∧
    (∀ o : ExtendAddOp, let r := rot o.rm o.rotate
      let n := s.reg o.rn
      ((Instr.sxtab o).runs s → exec (.sxtab o) s = .next (wrote o.rd (n + sb r))) ∧
      ((Instr.sxtah o).runs s → exec (.sxtah o) s = .next (wrote o.rd (n + sh r))) ∧
      ((Instr.uxtab o).runs s → exec (.uxtab o) s = .next (wrote o.rd (n + (r &&& 0xFF)))) ∧
      ((Instr.uxtah o).runs s → exec (.uxtah o) s = .next (wrote o.rd (n + (r &&& 0xFFFF)))) ∧
      ((Instr.sxtab16 o).runs s →
        exec (.sxtab16 o) s = .next (wrote o.rd ((hi n + s16 r 16) ++ (lo n + s16 r 0)))) ∧
      ((Instr.uxtab16 o).runs s →
        exec (.uxtab16 o) s = .next (wrote o.rd ((hi n + z16 r 16) ++ (lo n + z16 r 0)))))

/-- R300 to R304, R317 to R319: the bitfield instructions bit by bit; CLZ counts the zeros above the highest one (32 for zero);
REV, REV16 and REVSH reverse bytes; no flag and no other register changes. -/
def Obligations.BitfieldCountAndReverseResults : Prop :=
  (∀ s : State,
     (∀ o : BfxOp, let x := s.reg o.rn
       ((Instr.sbfx o).runs s → ∃ v, exec (.sbfx o) s = .next (s.setReg o.rd v).advance ∧
         ∀ j, j < 32 → v.getLsbD j = x.getLsbD (o.lsb.toNat + min j o.widthm1.toNat)) ∧
       ((Instr.ubfx o).runs s → ∃ v, exec (.ubfx o) s = .next (s.setReg o.rd v).advance ∧
         ∀ j, j < 32 → v.getLsbD j = (decide (j ≤ o.widthm1.toNat) && x.getLsbD (o.lsb.toNat + j)))) ∧
     (∀ o : BfiOp, (Instr.bfi o).runs s → ∃ v, exec (.bfi o) s = .next (s.setReg o.rd v).advance ∧
       ∀ j, j < 32 → v.getLsbD j =
         if o.lsb.toNat ≤ j ∧ j ≤ o.msb.toNat then (s.reg o.rn).getLsbD (j - o.lsb.toNat) else (s.reg o.rd).getLsbD j) ∧
     (∀ o : BfcOp, (Instr.bfc o).runs s → ∃ v, exec (.bfc o) s = .next (s.setReg o.rd v).advance ∧
       ∀ j, j < 32 → v.getLsbD j =
         if o.lsb.toNat ≤ j ∧ j ≤ o.msb.toNat then false else (s.reg o.rd).getLsbD j)) ∧
  (∀ (s : State) (o : UnaryOp), let x := s.reg o.rm
     let b (i : Nat) : BitVec 8 := x.extractLsb' (8 * i) 8
     ((Instr.clz o).runs s → ∃ n : Nat, n ≤ 32 ∧
       exec (.clz o) s = .next (s.setReg o.rd (BitVec.ofNat 32 n)).advance ∧
       (∀ j, 32 - n ≤ j → x.getLsbD j = false) ∧ (n < 32 → x.getLsbD (31 - n) = true)) ∧
     ((Instr.rev o).runs s → exec (.rev o) s = .next (s.setReg o.rd (b 0 ++ b 1 ++ b 2 ++ b 3)).advance) ∧
     ((Instr.rev16 o).runs s → exec (.rev16 o) s = .next (s.setReg o.rd (b 2 ++ b 3 ++ b 0 ++ b 1)).advance) ∧
     ((Instr.revsh o).runs s → exec (.revsh o) s = .next (s.setReg o.rd ((b 0).signExtend 24 ++ b 1)).advance))

/-! ### Loads and stores -/

/-- R340, R341, R345, R114, R350, R351, R354, R355, R360, R362 to R364, R366, R367, R526, R532: LDR, LDRB, LDRH, LDRSB and LDRSH
in every form, into a register other than the PC, and their unprivileged forms, post-indexed with write-back; an abort of the read is
taken with nothing written, and a halt of it (R102, R110) halts. -/
def Obligations.LoadResults : Prop :=
  (∀ o : LsImm, let a : AddrForm := { p := o.p, u := o.u, w := o.w, rn := o.rn, offset := plainOffset o.imm12 }
    LoadsRegister (.ldrImm o) .word (readAccess false true) id a o.rt ∧
    LoadsRegister (.ldrbImm o) .byte (readAccess false false) id a o.rt) ∧
  (∀ o : LsReg, let a : AddrForm := { p := o.p, u := o.u, w := o.w, rn := o.rn, offset := shiftedOffset o.rm o.type o.imm5 }
    LoadsRegister (.ldrReg o) .word (readAccess false true) id a o.rt ∧
    LoadsRegister (.ldrbReg o) .byte (readAccess false false) id a o.rt) ∧
  (∀ o : ExtraImm, let a : AddrForm := { p := o.p, u := o.u, w := o.w, rn := o.rn, offset := splitOffset o.imm4H o.imm4L }
    LoadsRegister (.ldrhImm o) .half (readAccess false true) id a o.rt ∧
    LoadsRegister (.ldrsbImm o) .byte (readAccess false false) signedByte a o.rt ∧
    LoadsRegister (.ldrshImm o) .half (readAccess false true) signedHalf a o.rt) ∧
  (∀ o : ExtraReg, let a : AddrForm := { p := o.p, u := o.u, w := o.w, rn := o.rn, offset := fun s => s.reg o.rm }
    LoadsRegister (.ldrhReg o) .half (readAccess false true) id a o.rt ∧
    LoadsRegister (.ldrsbReg o) .byte (readAccess false false) signedByte a o.rt ∧
    LoadsRegister (.ldrshReg o) .half (readAccess false true) signedHalf a o.rt) ∧
  (∀ o : LsTImm, let a := unprivForm o.u o.rn (plainOffset o.imm12)
    LoadsRegister (.ldrtImm o) .word (readAccess true true) id a o.rt ∧
    LoadsRegister (.ldrbtImm o) .byte (readAccess true false) id a o.rt) ∧
  (∀ o : LsTReg, let a := unprivForm o.u o.rn (shiftedOffset o.rm o.type o.imm5)
    LoadsRegister (.ldrtReg o) .word (readAccess true true) id a o.rt ∧
    LoadsRegister (.ldrbtReg o) .byte (readAccess true false) id a o.rt) ∧
  (∀ o : ExtraTImm, let a := unprivForm o.u o.rn (splitOffset o.imm4H o.imm4L)
    LoadsRegister (.ldrhtImm o) .half (readAccess true true) id a o.rt ∧
    LoadsRegister (.ldrsbtImm o) .byte (readAccess true false) signedByte a o.rt ∧
    LoadsRegister (.ldrshtImm o) .half (readAccess true true) signedHalf a o.rt) ∧
  (∀ o : ExtraTReg, let a := unprivForm o.u o.rn fun s => s.reg o.rm
    LoadsRegister (.ldrhtReg o) .half (readAccess true true) id a o.rt ∧
    LoadsRegister (.ldrsbtReg o) .byte (readAccess true false) signedByte a o.rt ∧
    LoadsRegister (.ldrshtReg o) .half (readAccess true true) signedHalf a o.rt)

/-- R343, R42, R41, R350: LDR into the PC branches to the loaded word, after its write-back; it halts for an unaligned address,
for Thumb, for an unaligned target and where its read halts, and takes its abort. -/
def Obligations.LoadIntoThePcBranches : Prop :=
  ∀ (i : Instr) (a : AddrForm) (s : State),
    ((∃ o : LsImm, i = .ldrImm o ∧ o.rt = pcReg ∧
        a = { p := o.p, u := o.u, w := o.w, rn := o.rn, offset := plainOffset o.imm12 }) ∨
      (∃ o : LsReg, i = .ldrReg o ∧ o.rt = pcReg ∧
        a = { p := o.p, u := o.u, w := o.w, rn := o.rn, offset := shiftedOffset o.rm o.type o.imm5 })) →
    i.runs s →
    (∀ data, memRead (a.address s) .word (readAccess false true) s = .ok data s →
      ((a.address s).extractLsb' 0 2 ≠ 0 → exec i s = .fault (.unpredictable (.rule 343))) ∧
      ((a.address s).extractLsb' 0 2 = 0 → data.getLsbD 0 = true → exec i s = .fault (.notImplemented .thumb)) ∧
      ((a.address s).extractLsb' 0 2 = 0 → data.getLsbD 0 = false → data.getLsbD 1 = true →
        exec i s = .fault (.unpredictable (.rule 41))) ∧
      ((a.address s).extractLsb' 0 2 = 0 → data.extractLsb' 0 2 = 0 →
        exec i s = .next { a.back s s with pc := data, pendingBranch := none })) ∧
    (∀ va status write, memRead (a.address s) .word (readAccess false true) s = .exc (.dataAbort va status write) s →
      exec i s = takeException .dataAbort (s.pc + 8) (s.setMemoryAbort va status write)) ∧
    (∀ f, memRead (a.address s) .word (readAccess false true) s = .halt f → exec i s = .fault f)

/-- R340, R341, R344, R345, R114, R352, R353, R356, R357, R361, R365, R526, R532, R107, R108: STR, STRB and STRH in every form,
and their unprivileged forms, post-indexed with write-back: exactly the bytes of the access are stored, a split access byte by
byte at each byte's translation, an abort is taken with the bytes before it stored and no write-back, and a halt of the write
halts; a stored PC is PC + 8. -/
def Obligations.StoreResults : Prop :=
  (∀ o : LsImm, let a : AddrForm := { p := o.p, u := o.u, w := o.w, rn := o.rn, offset := plainOffset o.imm12 }
    StoresRegister (.strImm o) .word (writeAccess false true) a o.rt ∧
    StoresRegister (.strbImm o) .byte (writeAccess false false) a o.rt) ∧
  (∀ o : LsReg, let a : AddrForm := { p := o.p, u := o.u, w := o.w, rn := o.rn, offset := shiftedOffset o.rm o.type o.imm5 }
    StoresRegister (.strReg o) .word (writeAccess false true) a o.rt ∧
    StoresRegister (.strbReg o) .byte (writeAccess false false) a o.rt) ∧
  (∀ o : ExtraImm, let a : AddrForm := { p := o.p, u := o.u, w := o.w, rn := o.rn, offset := splitOffset o.imm4H o.imm4L }
    StoresRegister (.strhImm o) .half (writeAccess false true) a o.rt) ∧
  (∀ o : ExtraReg, let a : AddrForm := { p := o.p, u := o.u, w := o.w, rn := o.rn, offset := fun s => s.reg o.rm }
    StoresRegister (.strhReg o) .half (writeAccess false true) a o.rt) ∧
  (∀ o : LsTImm, let a := unprivForm o.u o.rn (plainOffset o.imm12)
    StoresRegister (.strtImm o) .word (writeAccess true true) a o.rt ∧
    StoresRegister (.strbtImm o) .byte (writeAccess true false) a o.rt) ∧
  (∀ o : LsTReg, let a := unprivForm o.u o.rn (shiftedOffset o.rm o.type o.imm5)
    StoresRegister (.strtReg o) .word (writeAccess true true) a o.rt ∧
    StoresRegister (.strbtReg o) .byte (writeAccess true false) a o.rt) ∧
  (∀ o : ExtraTImm, StoresRegister (.strhtImm o) .half (writeAccess true true)
    (unprivForm o.u o.rn (splitOffset o.imm4H o.imm4L)) o.rt) ∧
  (∀ o : ExtraTReg, StoresRegister (.strhtReg o) .half (writeAccess true true)
    (unprivForm o.u o.rn fun s => s.reg o.rm) o.rt)

/-- R368, R369, R342: LDRD and STRD: two strict word accesses, the lower first, then the write-back and the destinations; an
abort of the second access leaves the base, and of LDRD the first destination open, of STRD the first word stored; a halt of either
halts. That only the first destination is open, and that the base keeps its value even as a destination, are the model's readings
(log entries 16, 17). -/
def Obligations.DualTransferResults : Prop :=
  ∀ (a : AddrForm) (rt : Reg) (s : State),
    let at0 := a.address s
    let at1 := a.address s + 4
    let rd := readAccess false false
    let wr := writeAccess false false
    (∀ i, ((∃ o : ExtraImm, i = .ldrdImm o ∧ rt = o.rt ∧
          a = { p := o.p, u := o.u, w := o.w, rn := o.rn, offset := splitOffset o.imm4H o.imm4L }) ∨
        (∃ o : ExtraReg, i = .ldrdReg o ∧ rt = o.rt ∧
          a = { p := o.p, u := o.u, w := o.w, rn := o.rn, offset := fun s => s.reg o.rm })) → i.runs s →
      (∀ lo hi, memRead at0 .word rd s = .ok lo s → memRead at1 .word rd s = .ok hi s →
        exec i s = .next (State.advance (((a.back s s).setReg rt lo).setReg (rt + 1) hi))) ∧
      (∀ va status write, memRead at0 .word rd s = .exc (.dataAbort va status write) s →
        exec i s = takeException .dataAbort (s.pc + 8) (s.setMemoryAbort va status write)) ∧
      (∀ lo va status write, memRead at0 .word rd s = .ok lo s →
        memRead at1 .word rd s = .exc (.dataAbort va status write) s →
        ∃ v n, exec i s = takeException .dataAbort (s.pc + 8)
          (State.setMemoryAbort { (if rt = a.rn then s else s.setReg rt v) with draws := n } va status write)) ∧
      (∀ f, memRead at0 .word rd s = .halt f → exec i s = .fault f) ∧
      (∀ lo f, memRead at0 .word rd s = .ok lo s → memRead at1 .word rd s = .halt f → exec i s = .fault f)) ∧
    (∀ i, ((∃ o : ExtraImm, i = .strdImm o ∧ rt = o.rt ∧
          a = { p := o.p, u := o.u, w := o.w, rn := o.rn, offset := splitOffset o.imm4H o.imm4L }) ∨
        (∃ o : ExtraReg, i = .strdReg o ∧ rt = o.rt ∧
          a = { p := o.p, u := o.u, w := o.w, rn := o.rn, offset := fun s => s.reg o.rm })) → i.runs s →
      (∀ pa, s.memoryCanonical = true → s.reaches at0 .word wr pa →
        ∃ m, s.mem.Stored pa 4 (s.reg rt) m ∧
          (∀ pb, State.reaches { s with mem := m } at1 .word wr pb →
            ∃ m', exec i s = .next (State.advance (a.back s { s with mem := m' })) ∧
              m.Stored pb 4 (s.reg (rt + 1)) m') ∧
          (∀ va status write, memWrite at1 .word (s.reg (rt + 1)) wr { s with mem := m }
              = .exc (.dataAbort va status write) { s with mem := m } →
            exec i s = takeException .dataAbort (s.pc + 8) (State.setMemoryAbort { s with mem := m } va status write)) ∧
          (∀ f, memWrite at1 .word (s.reg (rt + 1)) wr { s with mem := m } = .halt f → exec i s = .fault f)) ∧
      (∀ va status write, memWrite at0 .word (s.reg rt) wr s = .exc (.dataAbort va status write) s →
        exec i s = takeException .dataAbort (s.pc + 8) (s.setMemoryAbort va status write)) ∧
      (∀ f, memWrite at0 .word (s.reg rt) wr s = .halt f → exec i s = .fault f))

/-! ### Blocks, branches and the rest -/

/-- R410 to R415: LDM, LDMDA, LDMDB and LDMIB load the registers of the list, lowest first, from ascending addresses, write the
base back, and branch where the list has the PC; the halt of a read halts. -/
def Obligations.LoadMultipleResults : Prop :=
  ∀ o : BlockOp, LoadsBlock (.ldm o) false true o ∧ LoadsBlock (.ldmda o) false false o ∧
    LoadsBlock (.ldmdb o) true false o ∧ LoadsBlock (.ldmib o) true true o

/-- R410, R416 to R420: STM, STMDA, STMDB and STMIB store the registers of the list, lowest first, to ascending addresses, the
PC as PC + 8, each at its own translation, and write the base back; no other byte of memory changes; an abort of a word leaves the
earlier words stored and the base as it was, and a halt of one halts. -/
def Obligations.StoreMultipleResults : Prop :=
  ∀ o : BlockOp, StoresBlock (.stm o) false true o ∧ StoresBlock (.stmda o) false false o ∧
    StoresBlock (.stmdb o) true false o ∧ StoresBlock (.stmib o) true true o

/-- R422, R423: the user-register forms of LDM and STM transfer the User mode copies, without write-back, from a base of the
current mode; they halt in User and System mode and where an access halts; an abort of a word of STM leaves the earlier words
stored. -/
def Obligations.UserRegisterTransfers : Prop :=
  (∀ (o : LdmUserOp) (s : State), (Instr.ldmUser o).runs s →
    ((s.mode = .usr ∨ s.mode = .sys) → exec (.ldmUser o) s = .fault (.unpredictable (.rule 422))) ∧
    (s.mode ≠ .usr → s.mode ≠ .sys →
      let start := blockFrom o.p o.u (s.reg o.rn) (listCount o.registers)
      (∀ value, s.readsBlock start (listCount o.registers) value →
        ∃ cells, exec (.ldmUser o) s = .next (State.advance { s with cells := cells }) ∧
          s.loadedBlock .usr o.registers value o.rn none cells) ∧
      BlockLoadHalts (.ldmUser o) s start (listCount o.registers))) ∧
  (∀ (o : StmUserOp) (s : State), (Instr.stmUser o).runs s →
    let start := blockFrom o.p o.u (s.reg o.rn) (listCount o.registers)
    ((s.mode = .usr ∨ s.mode = .sys) → exec (.stmUser o) s = .fault (.unpredictable (.rule 423))) ∧
    (s.mode ≠ .usr → s.mode ≠ .sys →
      (∀ t, storeList .usr (registerList o.registers) start s = .ok () t →
        exec (.stmUser o) s = .next (State.advance { s with mem := t.mem })) ∧
      (s.memoryCanonical = true → s.plainBlock start →
        ∃ m, exec (.stmUser o) s = .next (State.advance { s with mem := m }) ∧
          s.storedBlock .usr o.registers start m) ∧
      BlockStoreEnds (.stmUser o) s .usr o.registers start id))

/-- R342, R410, R411, R421, R422: an abort of word `k` of any LDM, the exception return and the user-register form among them,
takes the data abort of that word with memory, the base register, and every register outside the list as they
were; no branch, no return and no write-back happens; with SCTLR.TE = 1 the entry halts. That the base keeps its value even where
it is in the list is the model's reading of R342 (log entry 16). -/
def Obligations.AbortedLoadMultipleKeepsItsBase : Prop :=
  (∀ (o : BlockOp) (p u : Bool) (i : Instr) (s : State),
    ((i = .ldm o ∧ p = false ∧ u = true) ∨ (i = .ldmda o ∧ p = false ∧ u = false) ∨
      (i = .ldmdb o ∧ p = true ∧ u = false) ∨ (i = .ldmib o ∧ p = true ∧ u = true)) → i.runs s →
    LoadAbortKeepsTheRest i s s.mode o.registers o.rn (blockFrom p u (s.reg o.rn) (listCount o.registers))
      (listCount o.registers)) ∧
  (∀ (o : LdmExcOp) (s : State), (Instr.ldmExcReturn o).runs s → s.mode ≠ .usr → s.mode ≠ .sys →
    LoadAbortKeepsTheRest (.ldmExcReturn o) s s.mode o.registers o.rn
      (blockFrom o.p o.u (s.reg o.rn) (listCount o.registers + 1)) (listCount o.registers + 1)) ∧
  (∀ (o : LdmUserOp) (s : State), (Instr.ldmUser o).runs s → s.mode ≠ .usr → s.mode ≠ .sys →
    LoadAbortKeepsTheRest (.ldmUser o) s .usr o.registers o.rn
      (blockFrom o.p o.u (s.reg o.rn) (listCount o.registers)) (listCount o.registers))

/-- R51, R480, R481, R482: LDREX reads and reserves the physical address, STREX stores and answers 0 exactly if its address is
the one reserved and otherwise answers 1 and stores nothing, and clears the reservation; so does CLREX. Under its reservation a
STREX at a misaligned address with SCTLR.A = 1 takes the alignment abort, and with CPSR.E = 1 halts (R107, R102); that one without
reservation answers 1 even there is the model's reading of R481 (log entry 15). -/
def Obligations.ExclusiveAccessResults : Prop :=
  (∀ (o : LdrexOp) (s : State), (Instr.ldrex o).runs s →
    (∀ data pa, memRead (s.reg o.rn) .word (readAccess false false) s = .ok data s →
      s.translate (s.reg o.rn) (readAccess false false) = .pa pa →
      exec (.ldrex o) s = .next (State.advance { s.setReg o.rt data with monitor := .exclusive pa })) ∧
    (∀ va status write, memRead (s.reg o.rn) .word (readAccess false false) s = .exc (.dataAbort va status write) s →
      exec (.ldrex o) s = takeException .dataAbort (s.pc + 8) (s.setMemoryAbort va status write)) ∧
    (∀ f, memRead (s.reg o.rn) .word (readAccess false false) s = .halt f → exec (.ldrex o) s = .fault f)) ∧
  (∀ (o : StrexOp) (s : State), (Instr.strex o).runs s →
    (∀ pa, s.translate (s.reg o.rn) (writeAccess false false) = .pa pa → s.monitor ≠ .exclusive pa →
      exec (.strex o) s = .next (State.advance { s.setReg o.rd 1 with monitor := .idle })) ∧
    (∀ pa, s.memoryCanonical = true → s.reaches (s.reg o.rn) .word (writeAccess false false) pa →
      s.monitor = .exclusive pa →
      ∃ m, exec (.strex o) s = .next (State.advance { s.setReg o.rd 0 with monitor := .idle, mem := m }) ∧
        s.mem.Stored pa 4 (s.reg o.rt) m) ∧
    (∀ pa, s.translate (s.reg o.rn) (writeAccess false false) = .pa pa → s.monitor = .exclusive pa →
      (psrE s.cpsr = true → exec (.strex o) s = .fault (.notImplemented .bigEndian)) ∧
      (psrE s.cpsr = false → (s.reg o.rn).toNat % 4 ≠ 0 → s.checkUnaligned = true →
        exec (.strex o) s = takeException .dataAbort (s.pc + 8) (s.setMemoryAbort (s.reg o.rn) .alignment true))) ∧
    (∀ va status write, s.translate (s.reg o.rn) (writeAccess false false) = .abort (.dataAbort va status write) →
      exec (.strex o) s = takeException .dataAbort (s.pc + 8) (s.setMemoryAbort va status write)) ∧
    (∀ f, s.translate (s.reg o.rn) (writeAccess false false) = .halt f → exec (.strex o) s = .fault f)) ∧
  (∀ (o : ClrexOp) (s : State), (Instr.clrex o).runs s →
    exec (.clrex o) s = .next (State.advance { s with monitor := .idle }))

/-- R60, R61, R490, R491, R545, R76: the key of every register and operation of the map, with its access class, and of no
other; MCR and MRC of a register of the map, in a mode that may access it; a key outside the map or against its direction halts;
from User mode, or a barrier with CP15BEN = 0, the Undefined Instruction exception is taken. That the barrier traps so in every
mode is the model's reading of R76 against R530 (log entry 11), that a key is looked up only when the condition passes its reading
of R490 and R491 (log entry 12). -/
def Obligations.Cp15Transfers : Prop :=
  (∀ (key : Cp15Key) (name : Cp15Name) (access : AccessClass),
    (∃ row, cp15Lookup key = some row ∧ row.name = name ∧ row.access = access) ↔ key.names name access) ∧
  ∀ (o : Cp15Op) (s : State),
    let key : Cp15Key := { crn := o.crn, opc1 := o.opc1, crm := o.crm, opc2 := o.opc2 }
    ((Instr.mcrP15 o).runs s →
      (cp15Lookup key = none → exec (.mcrP15 o) s = .fault (.cp15Unsupported key .write)) ∧
      ∀ row, cp15Lookup key = some row →
        let barrierOff := (∃ b, row.name = .barrier b) ∧ s.cp15.sctlr.getLsbD 5 = false
        (row.access = .ro1 → exec (.mcrP15 o) s = .fault (.cp15Unsupported key .write)) ∧
        (row.access ≠ .ro1 → (s.privileged = true ∨ row.access = .rw0 ∨ row.access = .wo0) → ¬ barrierOff →
          exec (.mcrP15 o) s
            = .next (State.advance { s with cp15 := s.cp15.written s.params.cfgnmfi row.name (s.reg o.rt) })) ∧
        (row.access ≠ .ro1 → ((s.privileged = false ∧ row.access ≠ .rw0 ∧ row.access ≠ .wo0) ∨ barrierOff) →
          exec (.mcrP15 o) s = takeException .undefined (s.pc + 4) s)) ∧
    ((Instr.mrcP15 o).runs s →
      (cp15Lookup key = none → exec (.mrcP15 o) s = .fault (.cp15Unsupported key .read)) ∧
      ∀ row, cp15Lookup key = some row →
        ((row.access = .wo1 ∨ row.access = .wo0) → exec (.mrcP15 o) s = .fault (.cp15Unsupported key .read)) ∧
        (row.access ≠ .wo1 → row.access ≠ .wo0 → (s.privileged = true ∨ row.access = .rw0 ∨ row.access = .ro0w1) →
          let v := s.cp15Read row.name
          (o.rt ≠ pcReg → exec (.mrcP15 o) s = .next (s.setReg o.rt v).advance) ∧
          (o.rt = pcReg → exec (.mrcP15 o) s = .next (State.advance
            { s with cpsr := withNZCV s.cpsr (v.getLsbD 31) (v.getLsbD 30) (v.getLsbD 29) (v.getLsbD 28) }))) ∧
        (row.access ≠ .wo1 → row.access ≠ .wo0 → s.privileged = false → row.access ≠ .rw0 → row.access ≠ .ro0w1 →
          exec (.mrcP15 o) s = takeException .undefined (s.pc + 4) s))

/-- R61, R63, R66, R71 to R76: what a CP15 register reads after a write of it, and that a write changes no other register (but
CCSIDR, which CSSELR selects); the operations change none. -/
def Obligations.Cp15WritesReadBack : Prop :=
  ∀ (s : State) (n m : Cp15Name) (v : Word),
    let t : State := { s with cp15 := s.cp15.written s.params.cfgnmfi n v }
    (∀ x, readBack s.params.cfgnmfi n v = some x → t.cp15Read n = x) ∧
    (readBack s.params.cfgnmfi n v = none → t = s) ∧
    (m ≠ n → (n = .csselr → m ≠ .ccsidr) → t.cp15Read m = s.cp15Read m)

/-- R400 to R404, R40, R41, R187: B, BL, BX, BXJ and BLX (register): the target, the link register, and the halts of an
interworking branch to an odd or a halfword address. That BLX lr branches to the old LR, its target read before LR is written, is
the model's reading of R403 against the parenthesis of R601 (log entry 27). -/
def Obligations.BranchResults : Prop :=
  (∀ (o : BranchOp) (s : State),
    let target := (s.pc + 8 + (o.imm24.signExtend 32) <<< 2) &&& 0xFFFFFFFC
    ((Instr.b o).runs s → exec (.b o) s = .next { s with pc := target, pendingBranch := none }) ∧
    ((Instr.bl o).runs s →
      exec (.bl o) s = .next { s.setReg 14 (s.pc + 4) with pc := target, pendingBranch := none })) ∧
  (∀ o : BxOp, BranchesTo (.bx o) (fun s => s.reg o.rm) ∧ BranchesTo (.bxj o) (fun s => s.reg o.rm)) ∧
  (∀ (o : BxOp) (s : State), (Instr.blxReg o).runs s → let target := s.reg o.rm
    (target.getLsbD 0 = true → exec (.blxReg o) s = .fault (.notImplemented .thumb)) ∧
    (target.getLsbD 0 = false → target.getLsbD 1 = true → exec (.blxReg o) s = .fault (.unpredictable (.rule 41))) ∧
    (target.getLsbD 0 = false → target.getLsbD 1 = false →
      exec (.blxReg o) s = .next { s.setReg 14 (s.pc + 4) with pc := target, pendingBranch := none }))

/-- R194, R460 to R465, R470 to R476: the hints, barriers and preloads only advance the PC. -/
def Obligations.HintsAndBarriersOnlyAdvance : Prop :=
  ∀ (i : Instr) (s : State), i.hasNoEffect = true → i.runs s →
    exec i s = .next { s with pc := s.pc + 4, pendingBranch := none }

/-- R192, R193, R405, R502, R503, R170, R172, R176: the rows that halt in every state, and the reason of each. -/
def Obligations.UnimplementedRowsHalt : Prop :=
  ∀ s : State,
    (∀ w, exec (.simdDataProcessing w) s = .fault .simdOrVfp ∧ exec (.simdLoadStore w) s = .fault .simdOrVfp ∧
      exec (.vfpUncondLoadStore w) s = .fault .simdOrVfp ∧ exec (.vfpUncondData w) s = .fault .simdOrVfp ∧
      exec (.vfpLoadStore w) s = .fault .simdOrVfp ∧ exec (.vfpData w) s = .fault .simdOrVfp) ∧
    (∀ w, exec (.unpredPldwImm w) s = .fault (.unpredictable (.rule 176)) ∧
      exec (.unpredUncond1010011 w) s = .fault (.unpredictable (.rule 176)) ∧
      exec (.unpredUncond1010111 w) s = .fault (.unpredictable (.rule 176)) ∧
      exec (.unpredUncond1011x11 w) s = .fault (.unpredictable (.rule 176)) ∧
      exec (.unpredUncond11xxx11 w) s = .fault (.unpredictable (.rule 176)) ∧
      exec (.unpredLdrdStrd w) s = .fault (.unpredictable .ldrdStrdPostWback) ∧
      exec (.unpredMsrImm w) s = .fault (.unpredictable (.rule 172))) ∧
    (∀ w, exec (.srs w) s = .fault (.notImplemented .srs) ∧ exec (.rfe w) s = .fault (.notImplemented .rfe) ∧
      exec (.halfwordMultiply w) s = .fault (.notImplemented .halfwordMultiply) ∧
      exec (.umaal w) s = .fault (.notImplemented .umaal) ∧
      exec (.exclusiveWidths w) s = .fault (.notImplemented .exclusiveWidth) ∧
      exec (.parallelAddSub w) s = .fault (.notImplemented .parallelAddSub) ∧
      exec (.pkh w) s = .fault (.notImplemented .pkh) ∧ exec (.sel w) s = .fault (.notImplemented .sel) ∧
      exec (.ssat16 w) s = .fault (.notImplemented .saturating) ∧
      exec (.ssat w) s = .fault (.notImplemented .saturating) ∧
      exec (.usat16 w) s = .fault (.notImplemented .saturating) ∧
      exec (.usat w) s = .fault (.notImplemented .saturating) ∧
      exec (.rbit w) s = .fault (.notImplemented .rbit) ∧
      exec (.signedMultiply w) s = .fault (.notImplemented .signedMultiply) ∧
      exec (.usad8 w) s = .fault (.notImplemented .usad8)) ∧
    (∀ o, exec (.blxImm o) s = .fault (.notImplemented .thumb)) ∧
    (∀ o, exec (.bkpt o) s = .fault (.notImplemented .bkpt)) ∧
    (∀ o, (Instr.qadd o).unpredictable = false → exec (.qadd o) s = .fault (.notImplemented .saturating)) ∧
    (∀ o, (Instr.swp o).unpredictable = false → exec (.swp o) s = .fault (.notImplemented .swp)) ∧
    (∀ o, (Instr.smc o).unpredictable = false → exec (.smc o) s = .fault (.notImplemented .smc))
end

