-- ==== Sys2Proof/Laws/Encoding.lean ====
section
/-! SUPPORT. Bit fields put in and cut out again: the generic lemmas, and for each operand shape that cutting a
word built from it gives it back (`ofWord_toWord`) and that its fixed bits are the row's (`toWord_mask`). -/

set_option linter.unusedSimpArgs false

namespace Sys2Proof

open Machine (slice bit place placeBit)

theorem slice_or (a b : Word) (lo n : Nat) : slice (a ||| b) lo n = slice a lo n ||| slice b lo n := by
  simp [slice, BitVec.extractLsb'_or]

theorem bit_or (a b : Word) (i : Nat) : bit (a ||| b) i = (bit a i || bit b i) := by simp [bit]

theorem slice_place_same {n : Nat} (v : BitVec n) (lo : Nat) (h : lo + n ≤ 32) : slice (place v lo) lo n = v := by
  ext i hi
  simp [slice, place]
  grind

theorem slice_place_other {m : Nat} (v : BitVec m) (lo lo' n : Nat) (h : lo + m ≤ lo' ∨ lo' + n ≤ lo) :
    slice (place v lo) lo' n = 0 := by
  ext i hi
  simp [slice, place]
  grind

theorem bit_place_other {m : Nat} (v : BitVec m) (lo i : Nat) (h : lo + m ≤ i ∨ i < lo) : bit (place v lo) i = false := by
  simp [bit, place]
  grind

theorem bit_placeBit_same (b : Bool) (i : Nat) (h : i < 32) : bit (placeBit b i) i = b := by
  simp [bit, placeBit, place, h]

theorem bit_placeBit_other (b : Bool) (j i : Nat) (h : j ≠ i) : bit (placeBit b j) i = false := by
  unfold placeBit
  apply bit_place_other
  omega

theorem slice_placeBit_other (b : Bool) (j lo n : Nat) (h : j < lo ∨ lo + n ≤ j) : slice (placeBit b j) lo n = 0 := by
  unfold placeBit
  apply slice_place_other
  omega

/-- A word with no bit under a mask is 0 in every field the mask covers. -/
theorem slice_zero_of_and {a m : Word} (h : a &&& m = 0) (k n : Nat) (hm : slice m k n = BitVec.allOnes n) :
    slice a k n = 0 := by
  have : slice a k n &&& slice m k n = 0 := by
    simp only [slice]
    rw [← BitVec.extractLsb'_and, h]
    simp
  rwa [hm, BitVec.and_allOnes] at this

theorem bit_zero_of_and {a m : Word} (h : a &&& m = 0) (k : Nat) (hm : bit m k = true) : bit a k = false := by
  have := congrArg (fun x => BitVec.getLsbD x k) h
  simp [bit] at *
  simpa [hm] using this

/-- A field placed where a mask has no bit vanishes under it. -/
theorem place_and {m : Nat} (v : BitVec m) (lo : Nat) (mask : Word) (h : slice mask lo m = 0) :
    place v lo &&& mask = 0 := by
  ext i hi
  have := congrArg (fun x => BitVec.getLsbD x (i - lo)) h
  simp [slice, place] at *
  intro h1 h2
  have h3 : i - lo < m := by
    by_contra hh
    simp at hh
    rw [BitVec.getLsbD_of_ge _ _ hh] at h2
    simp at h2
  have := this h3
  rwa [show lo + (i - lo) = i by omega, BitVec.getLsbD_eq_getElem hi] at this

theorem placeBit_and (b : Bool) (i : Nat) (mask : Word) (h : slice mask i 1 = 0) : placeBit b i &&& mask = 0 :=
  place_and _ _ _ h

theorem or_zero_word (a : Word) : a ||| 0 = a := BitVec.or_zero

theorem or_and_mask (a b c : Word) : (a ||| b) &&& c = (a &&& c) ||| (b &&& c) := by
  ext
  simp
  grind

theorem CpsOp.ofWord_toWord (base : Word) (h : base &&& 0x000EFFDF = 0) (o : CpsOp) : CpsOp.ofWord (o.toWord base) = o := by
  have hs := @slice_zero_of_and base _ h
  have hb := @bit_zero_of_and base _ h
  cases o
  simp (disch := decide) [CpsOp.ofWord, CpsOp.toWord, slice_or, bit_or, slice_place_same, slice_place_other, bit_place_other,
    bit_placeBit_same, bit_placeBit_other, slice_placeBit_other, hs, hb]

theorem CpsOp.toWord_mask (base mask : Word) (h : base &&& mask = base) (h2 : mask &&& 0x000EFFDF = 0) (o : CpsOp) :
    o.toWord base &&& mask = base := by
  have hs := @slice_zero_of_and mask _ h2
  cases o
  simp (disch := first | decide | (apply hs; decide)) only [CpsOp.toWord, or_and_mask, place_and, placeBit_and, h,
    or_zero_word]

theorem SetendOp.ofWord_toWord (base : Word) (h : base &&& 0x0000FF0F = 0) (o : SetendOp) : SetendOp.ofWord (o.toWord base) = o := by
  have hs := @slice_zero_of_and base _ h
  have hb := @bit_zero_of_and base _ h
  cases o
  simp (disch := decide) [SetendOp.ofWord, SetendOp.toWord, slice_or, bit_or, slice_place_same, slice_place_other, bit_place_other,
    bit_placeBit_same, bit_placeBit_other, slice_placeBit_other, hs, hb]

theorem SetendOp.toWord_mask (base mask : Word) (h : base &&& mask = base) (h2 : mask &&& 0x0000FF0F = 0) (o : SetendOp) :
    o.toWord base &&& mask = base := by
  have hs := @slice_zero_of_and mask _ h2
  cases o
  simp (disch := first | decide | (apply hs; decide)) only [SetendOp.toWord, or_and_mask, place_and, placeBit_and, h,
    or_zero_word]

theorem PreloadImm.ofWord_toWord (base : Word) (h : base &&& 0x008FFFFF = 0) (o : PreloadImm) : PreloadImm.ofWord (o.toWord base) = o := by
  have hs := @slice_zero_of_and base _ h
  have hb := @bit_zero_of_and base _ h
  cases o
  simp (disch := decide) [PreloadImm.ofWord, PreloadImm.toWord, slice_or, bit_or, slice_place_same, slice_place_other, bit_place_other,
    bit_placeBit_same, bit_placeBit_other, slice_placeBit_other, hs, hb]

theorem PreloadImm.toWord_mask (base mask : Word) (h : base &&& mask = base) (h2 : mask &&& 0x008FFFFF = 0) (o : PreloadImm) :
    o.toWord base &&& mask = base := by
  have hs := @slice_zero_of_and mask _ h2
  cases o
  simp (disch := first | decide | (apply hs; decide)) only [PreloadImm.toWord, or_and_mask, place_and, placeBit_and, h,
    or_zero_word]

theorem PreloadReg.ofWord_toWord (base : Word) (h : base &&& 0x008FFFEF = 0) (o : PreloadReg) : PreloadReg.ofWord (o.toWord base) = o := by
  have hs := @slice_zero_of_and base _ h
  have hb := @bit_zero_of_and base _ h
  cases o
  simp (disch := decide) [PreloadReg.ofWord, PreloadReg.toWord, slice_or, bit_or, slice_place_same, slice_place_other, bit_place_other,
    bit_placeBit_same, bit_placeBit_other, slice_placeBit_other, hs, hb]

theorem PreloadReg.toWord_mask (base mask : Word) (h : base &&& mask = base) (h2 : mask &&& 0x008FFFEF = 0) (o : PreloadReg) :
    o.toWord base &&& mask = base := by
  have hs := @slice_zero_of_and mask _ h2
  cases o
  simp (disch := first | decide | (apply hs; decide)) only [PreloadReg.toWord, or_and_mask, place_and, placeBit_and, h,
    or_zero_word]

theorem ClrexOp.ofWord_toWord (base : Word) (h : base &&& 0x000FFF0F = 0) (o : ClrexOp) : ClrexOp.ofWord (o.toWord base) = o := by
  have hs := @slice_zero_of_and base _ h
  have hb := @bit_zero_of_and base _ h
  cases o
  simp (disch := decide) [ClrexOp.ofWord, ClrexOp.toWord, slice_or, bit_or, slice_place_same, slice_place_other, bit_place_other,
    bit_placeBit_same, bit_placeBit_other, slice_placeBit_other, hs, hb]

theorem ClrexOp.toWord_mask (base mask : Word) (h : base &&& mask = base) (h2 : mask &&& 0x000FFF0F = 0) (o : ClrexOp) :
    o.toWord base &&& mask = base := by
  have hs := @slice_zero_of_and mask _ h2
  cases o
  simp (disch := first | decide | (apply hs; decide)) only [ClrexOp.toWord, or_and_mask, place_and, placeBit_and, h,
    or_zero_word]

theorem BarrierOp.ofWord_toWord (base : Word) (h : base &&& 0x000FFF0F = 0) (o : BarrierOp) : BarrierOp.ofWord (o.toWord base) = o := by
  have hs := @slice_zero_of_and base _ h
  have hb := @bit_zero_of_and base _ h
  cases o
  simp (disch := decide) [BarrierOp.ofWord, BarrierOp.toWord, slice_or, bit_or, slice_place_same, slice_place_other, bit_place_other,
    bit_placeBit_same, bit_placeBit_other, slice_placeBit_other, hs, hb]

theorem BarrierOp.toWord_mask (base mask : Word) (h : base &&& mask = base) (h2 : mask &&& 0x000FFF0F = 0) (o : BarrierOp) :
    o.toWord base &&& mask = base := by
  have hs := @slice_zero_of_and mask _ h2
  cases o
  simp (disch := first | decide | (apply hs; decide)) only [BarrierOp.toWord, or_and_mask, place_and, placeBit_and, h,
    or_zero_word]

theorem BlxImmOp.ofWord_toWord (base : Word) (h : base &&& 0x01FFFFFF = 0) (o : BlxImmOp) : BlxImmOp.ofWord (o.toWord base) = o := by
  have hs := @slice_zero_of_and base _ h
  have hb := @bit_zero_of_and base _ h
  cases o
  simp (disch := decide) [BlxImmOp.ofWord, BlxImmOp.toWord, slice_or, bit_or, slice_place_same, slice_place_other, bit_place_other,
    bit_placeBit_same, bit_placeBit_other, slice_placeBit_other, hs, hb]

theorem BlxImmOp.toWord_mask (base mask : Word) (h : base &&& mask = base) (h2 : mask &&& 0x01FFFFFF = 0) (o : BlxImmOp) :
    o.toWord base &&& mask = base := by
  have hs := @slice_zero_of_and mask _ h2
  cases o
  simp (disch := first | decide | (apply hs; decide)) only [BlxImmOp.toWord, or_and_mask, place_and, placeBit_and, h,
    or_zero_word]

theorem Mcrr2Op.ofWord_toWord (base : Word) (h : base &&& 0x001FFFFF = 0) (o : Mcrr2Op) : Mcrr2Op.ofWord (o.toWord base) = o := by
  have hs := @slice_zero_of_and base _ h
  have hb := @bit_zero_of_and base _ h
  cases o
  simp (disch := decide) [Mcrr2Op.ofWord, Mcrr2Op.toWord, slice_or, bit_or, slice_place_same, slice_place_other, bit_place_other,
    bit_placeBit_same, bit_placeBit_other, slice_placeBit_other, hs, hb]

theorem Mcrr2Op.toWord_mask (base mask : Word) (h : base &&& mask = base) (h2 : mask &&& 0x001FFFFF = 0) (o : Mcrr2Op) :
    o.toWord base &&& mask = base := by
  have hs := @slice_zero_of_and mask _ h2
  cases o
  simp (disch := first | decide | (apply hs; decide)) only [Mcrr2Op.toWord, or_and_mask, place_and, placeBit_and, h,
    or_zero_word]

theorem Stc2Op.ofWord_toWord (base : Word) (h : base &&& 0x01FFFFFF = 0) (o : Stc2Op) : Stc2Op.ofWord (o.toWord base) = o := by
  have hs := @slice_zero_of_and base _ h
  have hb := @bit_zero_of_and base _ h
  cases o
  simp (disch := decide) [Stc2Op.ofWord, Stc2Op.toWord, slice_or, bit_or, slice_place_same, slice_place_other, bit_place_other,
    bit_placeBit_same, bit_placeBit_other, slice_placeBit_other, hs, hb]

theorem Stc2Op.toWord_mask (base mask : Word) (h : base &&& mask = base) (h2 : mask &&& 0x01FFFFFF = 0) (o : Stc2Op) :
    o.toWord base &&& mask = base := by
  have hs := @slice_zero_of_and mask _ h2
  cases o
  simp (disch := first | decide | (apply hs; decide)) only [Stc2Op.toWord, or_and_mask, place_and, placeBit_and, h,
    or_zero_word]

theorem Cdp2Op.ofWord_toWord (base : Word) (h : base &&& 0x00FFFFEF = 0) (o : Cdp2Op) : Cdp2Op.ofWord (o.toWord base) = o := by
  have hs := @slice_zero_of_and base _ h
  have hb := @bit_zero_of_and base _ h
  cases o
  simp (disch := decide) [Cdp2Op.ofWord, Cdp2Op.toWord, slice_or, bit_or, slice_place_same, slice_place_other, bit_place_other,
    bit_placeBit_same, bit_placeBit_other, slice_placeBit_other, hs, hb]

theorem Cdp2Op.toWord_mask (base mask : Word) (h : base &&& mask = base) (h2 : mask &&& 0x00FFFFEF = 0) (o : Cdp2Op) :
    o.toWord base &&& mask = base := by
  have hs := @slice_zero_of_and mask _ h2
  cases o
  simp (disch := first | decide | (apply hs; decide)) only [Cdp2Op.toWord, or_and_mask, place_and, placeBit_and, h,
    or_zero_word]

theorem Mcr2Op.ofWord_toWord (base : Word) (h : base &&& 0x00FFFFEF = 0) (o : Mcr2Op) : Mcr2Op.ofWord (o.toWord base) = o := by
  have hs := @slice_zero_of_and base _ h
  have hb := @bit_zero_of_and base _ h
  cases o
  simp (disch := decide) [Mcr2Op.ofWord, Mcr2Op.toWord, slice_or, bit_or, slice_place_same, slice_place_other, bit_place_other,
    bit_placeBit_same, bit_placeBit_other, slice_placeBit_other, hs, hb]

theorem Mcr2Op.toWord_mask (base mask : Word) (h : base &&& mask = base) (h2 : mask &&& 0x00FFFFEF = 0) (o : Mcr2Op) :
    o.toWord base &&& mask = base := by
  have hs := @slice_zero_of_and mask _ h2
  cases o
  simp (disch := first | decide | (apply hs; decide)) only [Mcr2Op.toWord, or_and_mask, place_and, placeBit_and, h,
    or_zero_word]

theorem MrsOp.ofWord_toWord (base : Word) (h : base &&& 0xF04FFD0F = 0) (o : MrsOp) : MrsOp.ofWord (o.toWord base) = o := by
  have hs := @slice_zero_of_and base _ h
  have hb := @bit_zero_of_and base _ h
  cases o
  simp (disch := decide) [MrsOp.ofWord, MrsOp.toWord, slice_or, bit_or, slice_place_same, slice_place_other, bit_place_other,
    bit_placeBit_same, bit_placeBit_other, slice_placeBit_other, hs, hb]

theorem MrsOp.toWord_mask (base mask : Word) (h : base &&& mask = base) (h2 : mask &&& 0xF04FFD0F = 0) (o : MrsOp) :
    o.toWord base &&& mask = base := by
  have hs := @slice_zero_of_and mask _ h2
  cases o
  simp (disch := first | decide | (apply hs; decide)) only [MrsOp.toWord, or_and_mask, place_and, placeBit_and, h,
    or_zero_word]

theorem MsrRegOp.ofWord_toWord (base : Word) (h : base &&& 0xF04FFD0F = 0) (o : MsrRegOp) : MsrRegOp.ofWord (o.toWord base) = o := by
  have hs := @slice_zero_of_and base _ h
  have hb := @bit_zero_of_and base _ h
  cases o
  simp (disch := decide) [MsrRegOp.ofWord, MsrRegOp.toWord, slice_or, bit_or, slice_place_same, slice_place_other, bit_place_other,
    bit_placeBit_same, bit_placeBit_other, slice_placeBit_other, hs, hb]

theorem MsrRegOp.toWord_mask (base mask : Word) (h : base &&& mask = base) (h2 : mask &&& 0xF04FFD0F = 0) (o : MsrRegOp) :
    o.toWord base &&& mask = base := by
  have hs := @slice_zero_of_and mask _ h2
  cases o
  simp (disch := first | decide | (apply hs; decide)) only [MsrRegOp.toWord, or_and_mask, place_and, placeBit_and, h,
    or_zero_word]

theorem BxOp.ofWord_toWord (base : Word) (h : base &&& 0xF00FFF0F = 0) (o : BxOp) : BxOp.ofWord (o.toWord base) = o := by
  have hs := @slice_zero_of_and base _ h
  have hb := @bit_zero_of_and base _ h
  cases o
  simp (disch := decide) [BxOp.ofWord, BxOp.toWord, slice_or, bit_or, slice_place_same, slice_place_other, bit_place_other,
    bit_placeBit_same, bit_placeBit_other, slice_placeBit_other, hs, hb]

theorem BxOp.toWord_mask (base mask : Word) (h : base &&& mask = base) (h2 : mask &&& 0xF00FFF0F = 0) (o : BxOp) :
    o.toWord base &&& mask = base := by
  have hs := @slice_zero_of_and mask _ h2
  cases o
  simp (disch := first | decide | (apply hs; decide)) only [BxOp.toWord, or_and_mask, place_and, placeBit_and, h,
    or_zero_word]

theorem UnaryOp.ofWord_toWord (base : Word) (h : base &&& 0xF00FFF0F = 0) (o : UnaryOp) : UnaryOp.ofWord (o.toWord base) = o := by
  have hs := @slice_zero_of_and base _ h
  have hb := @bit_zero_of_and base _ h
  cases o
  simp (disch := decide) [UnaryOp.ofWord, UnaryOp.toWord, slice_or, bit_or, slice_place_same, slice_place_other, bit_place_other,
    bit_placeBit_same, bit_placeBit_other, slice_placeBit_other, hs, hb]

theorem UnaryOp.toWord_mask (base mask : Word) (h : base &&& mask = base) (h2 : mask &&& 0xF00FFF0F = 0) (o : UnaryOp) :
    o.toWord base &&& mask = base := by
  have hs := @slice_zero_of_and mask _ h2
  cases o
  simp (disch := first | decide | (apply hs; decide)) only [UnaryOp.toWord, or_and_mask, place_and, placeBit_and, h,
    or_zero_word]

theorem QaddOp.ofWord_toWord (base : Word) (h : base &&& 0xF06FFF0F = 0) (o : QaddOp) : QaddOp.ofWord (o.toWord base) = o := by
  have hs := @slice_zero_of_and base _ h
  have hb := @bit_zero_of_and base _ h
  cases o
  simp (disch := decide) [QaddOp.ofWord, QaddOp.toWord, slice_or, bit_or, slice_place_same, slice_place_other, bit_place_other,
    bit_placeBit_same, bit_placeBit_other, slice_placeBit_other, hs, hb]

theorem QaddOp.toWord_mask (base mask : Word) (h : base &&& mask = base) (h2 : mask &&& 0xF06FFF0F = 0) (o : QaddOp) :
    o.toWord base &&& mask = base := by
  have hs := @slice_zero_of_and mask _ h2
  cases o
  simp (disch := first | decide | (apply hs; decide)) only [QaddOp.toWord, or_and_mask, place_and, placeBit_and, h,
    or_zero_word]

theorem TrapOp.ofWord_toWord (base : Word) (h : base &&& 0xF00FFF0F = 0) (o : TrapOp) : TrapOp.ofWord (o.toWord base) = o := by
  have hs := @slice_zero_of_and base _ h
  have hb := @bit_zero_of_and base _ h
  cases o
  simp (disch := decide) [TrapOp.ofWord, TrapOp.toWord, slice_or, bit_or, slice_place_same, slice_place_other, bit_place_other,
    bit_placeBit_same, bit_placeBit_other, slice_placeBit_other, hs, hb]

theorem TrapOp.toWord_mask (base mask : Word) (h : base &&& mask = base) (h2 : mask &&& 0xF00FFF0F = 0) (o : TrapOp) :
    o.toWord base &&& mask = base := by
  have hs := @slice_zero_of_and mask _ h2
  cases o
  simp (disch := first | decide | (apply hs; decide)) only [TrapOp.toWord, or_and_mask, place_and, placeBit_and, h,
    or_zero_word]

theorem SmcOp.ofWord_toWord (base : Word) (h : base &&& 0xF00FFF0F = 0) (o : SmcOp) : SmcOp.ofWord (o.toWord base) = o := by
  have hs := @slice_zero_of_and base _ h
  have hb := @bit_zero_of_and base _ h
  cases o
  simp (disch := decide) [SmcOp.ofWord, SmcOp.toWord, slice_or, bit_or, slice_place_same, slice_place_other, bit_place_other,
    bit_placeBit_same, bit_placeBit_other, slice_placeBit_other, hs, hb]

theorem SmcOp.toWord_mask (base mask : Word) (h : base &&& mask = base) (h2 : mask &&& 0xF00FFF0F = 0) (o : SmcOp) :
    o.toWord base &&& mask = base := by
  have hs := @slice_zero_of_and mask _ h2
  cases o
  simp (disch := first | decide | (apply hs; decide)) only [SmcOp.toWord, or_and_mask, place_and, placeBit_and, h,
    or_zero_word]

theorem MulOp.ofWord_toWord (base : Word) (h : base &&& 0xF01FFF0F = 0) (o : MulOp) : MulOp.ofWord (o.toWord base) = o := by
  have hs := @slice_zero_of_and base _ h
  have hb := @bit_zero_of_and base _ h
  cases o
  simp (disch := decide) [MulOp.ofWord, MulOp.toWord, slice_or, bit_or, slice_place_same, slice_place_other, bit_place_other,
    bit_placeBit_same, bit_placeBit_other, slice_placeBit_other, hs, hb]

theorem MulOp.toWord_mask (base mask : Word) (h : base &&& mask = base) (h2 : mask &&& 0xF01FFF0F = 0) (o : MulOp) :
    o.toWord base &&& mask = base := by
  have hs := @slice_zero_of_and mask _ h2
  cases o
  simp (disch := first | decide | (apply hs; decide)) only [MulOp.toWord, or_and_mask, place_and, placeBit_and, h,
    or_zero_word]

theorem MlaOp.ofWord_toWord (base : Word) (h : base &&& 0xF01FFF0F = 0) (o : MlaOp) : MlaOp.ofWord (o.toWord base) = o := by
  have hs := @slice_zero_of_and base _ h
  have hb := @bit_zero_of_and base _ h
  cases o
  simp (disch := decide) [MlaOp.ofWord, MlaOp.toWord, slice_or, bit_or, slice_place_same, slice_place_other, bit_place_other,
    bit_placeBit_same, bit_placeBit_other, slice_placeBit_other, hs, hb]

theorem MlaOp.toWord_mask (base mask : Word) (h : base &&& mask = base) (h2 : mask &&& 0xF01FFF0F = 0) (o : MlaOp) :
    o.toWord base &&& mask = base := by
  have hs := @slice_zero_of_and mask _ h2
  cases o
  simp (disch := first | decide | (apply hs; decide)) only [MlaOp.toWord, or_and_mask, place_and, placeBit_and, h,
    or_zero_word]

theorem MlsOp.ofWord_toWord (base : Word) (h : base &&& 0xF00FFF0F = 0) (o : MlsOp) : MlsOp.ofWord (o.toWord base) = o := by
  have hs := @slice_zero_of_and base _ h
  have hb := @bit_zero_of_and base _ h
  cases o
  simp (disch := decide) [MlsOp.ofWord, MlsOp.toWord, slice_or, bit_or, slice_place_same, slice_place_other, bit_place_other,
    bit_placeBit_same, bit_placeBit_other, slice_placeBit_other, hs, hb]

theorem MlsOp.toWord_mask (base mask : Word) (h : base &&& mask = base) (h2 : mask &&& 0xF00FFF0F = 0) (o : MlsOp) :
    o.toWord base &&& mask = base := by
  have hs := @slice_zero_of_and mask _ h2
  cases o
  simp (disch := first | decide | (apply hs; decide)) only [MlsOp.toWord, or_and_mask, place_and, placeBit_and, h,
    or_zero_word]

theorem MulLongOp.ofWord_toWord (base : Word) (h : base &&& 0xF01FFF0F = 0) (o : MulLongOp) : MulLongOp.ofWord (o.toWord base) = o := by
  have hs := @slice_zero_of_and base _ h
  have hb := @bit_zero_of_and base _ h
  cases o
  simp (disch := decide) [MulLongOp.ofWord, MulLongOp.toWord, slice_or, bit_or, slice_place_same, slice_place_other, bit_place_other,
    bit_placeBit_same, bit_placeBit_other, slice_placeBit_other, hs, hb]

theorem MulLongOp.toWord_mask (base mask : Word) (h : base &&& mask = base) (h2 : mask &&& 0xF01FFF0F = 0) (o : MulLongOp) :
    o.toWord base &&& mask = base := by
  have hs := @slice_zero_of_and mask _ h2
  cases o
  simp (disch := first | decide | (apply hs; decide)) only [MulLongOp.toWord, or_and_mask, place_and, placeBit_and, h,
    or_zero_word]

theorem SwpOp.ofWord_toWord (base : Word) (h : base &&& 0xF04FFF0F = 0) (o : SwpOp) : SwpOp.ofWord (o.toWord base) = o := by
  have hs := @slice_zero_of_and base _ h
  have hb := @bit_zero_of_and base _ h
  cases o
  simp (disch := decide) [SwpOp.ofWord, SwpOp.toWord, slice_or, bit_or, slice_place_same, slice_place_other, bit_place_other,
    bit_placeBit_same, bit_placeBit_other, slice_placeBit_other, hs, hb]

theorem SwpOp.toWord_mask (base mask : Word) (h : base &&& mask = base) (h2 : mask &&& 0xF04FFF0F = 0) (o : SwpOp) :
    o.toWord base &&& mask = base := by
  have hs := @slice_zero_of_and mask _ h2
  cases o
  simp (disch := first | decide | (apply hs; decide)) only [SwpOp.toWord, or_and_mask, place_and, placeBit_and, h,
    or_zero_word]

theorem StrexOp.ofWord_toWord (base : Word) (h : base &&& 0xF00FFF0F = 0) (o : StrexOp) : StrexOp.ofWord (o.toWord base) = o := by
  have hs := @slice_zero_of_and base _ h
  have hb := @bit_zero_of_and base _ h
  cases o
  simp (disch := decide) [StrexOp.ofWord, StrexOp.toWord, slice_or, bit_or, slice_place_same, slice_place_other, bit_place_other,
    bit_placeBit_same, bit_placeBit_other, slice_placeBit_other, hs, hb]

theorem StrexOp.toWord_mask (base mask : Word) (h : base &&& mask = base) (h2 : mask &&& 0xF00FFF0F = 0) (o : StrexOp) :
    o.toWord base &&& mask = base := by
  have hs := @slice_zero_of_and mask _ h2
  cases o
  simp (disch := first | decide | (apply hs; decide)) only [StrexOp.toWord, or_and_mask, place_and, placeBit_and, h,
    or_zero_word]

theorem LdrexOp.ofWord_toWord (base : Word) (h : base &&& 0xF00FFF0F = 0) (o : LdrexOp) : LdrexOp.ofWord (o.toWord base) = o := by
  have hs := @slice_zero_of_and base _ h
  have hb := @bit_zero_of_and base _ h
  cases o
  simp (disch := decide) [LdrexOp.ofWord, LdrexOp.toWord, slice_or, bit_or, slice_place_same, slice_place_other, bit_place_other,
    bit_placeBit_same, bit_placeBit_other, slice_placeBit_other, hs, hb]

theorem LdrexOp.toWord_mask (base mask : Word) (h : base &&& mask = base) (h2 : mask &&& 0xF00FFF0F = 0) (o : LdrexOp) :
    o.toWord base &&& mask = base := by
  have hs := @slice_zero_of_and mask _ h2
  cases o
  simp (disch := first | decide | (apply hs; decide)) only [LdrexOp.toWord, or_and_mask, place_and, placeBit_and, h,
    or_zero_word]

theorem ExtraImm.ofWord_toWord (base : Word) (h : base &&& 0xF1AFFF0F = 0) (o : ExtraImm) : ExtraImm.ofWord (o.toWord base) = o := by
  have hs := @slice_zero_of_and base _ h
  have hb := @bit_zero_of_and base _ h
  cases o
  simp (disch := decide) [ExtraImm.ofWord, ExtraImm.toWord, slice_or, bit_or, slice_place_same, slice_place_other, bit_place_other,
    bit_placeBit_same, bit_placeBit_other, slice_placeBit_other, hs, hb]

theorem ExtraImm.toWord_mask (base mask : Word) (h : base &&& mask = base) (h2 : mask &&& 0xF1AFFF0F = 0) (o : ExtraImm) :
    o.toWord base &&& mask = base := by
  have hs := @slice_zero_of_and mask _ h2
  cases o
  simp (disch := first | decide | (apply hs; decide)) only [ExtraImm.toWord, or_and_mask, place_and, placeBit_and, h,
    or_zero_word]

theorem ExtraReg.ofWord_toWord (base : Word) (h : base &&& 0xF1AFFF0F = 0) (o : ExtraReg) : ExtraReg.ofWord (o.toWord base) = o := by
  have hs := @slice_zero_of_and base _ h
  have hb := @bit_zero_of_and base _ h
  cases o
  simp (disch := decide) [ExtraReg.ofWord, ExtraReg.toWord, slice_or, bit_or, slice_place_same, slice_place_other, bit_place_other,
    bit_placeBit_same, bit_placeBit_other, slice_placeBit_other, hs, hb]

theorem ExtraReg.toWord_mask (base mask : Word) (h : base &&& mask = base) (h2 : mask &&& 0xF1AFFF0F = 0) (o : ExtraReg) :
    o.toWord base &&& mask = base := by
  have hs := @slice_zero_of_and mask _ h2
  cases o
  simp (disch := first | decide | (apply hs; decide)) only [ExtraReg.toWord, or_and_mask, place_and, placeBit_and, h,
    or_zero_word]

theorem ExtraTImm.ofWord_toWord (base : Word) (h : base &&& 0xF08FFF0F = 0) (o : ExtraTImm) : ExtraTImm.ofWord (o.toWord base) = o := by
  have hs := @slice_zero_of_and base _ h
  have hb := @bit_zero_of_and base _ h
  cases o
  simp (disch := decide) [ExtraTImm.ofWord, ExtraTImm.toWord, slice_or, bit_or, slice_place_same, slice_place_other, bit_place_other,
    bit_placeBit_same, bit_placeBit_other, slice_placeBit_other, hs, hb]

theorem ExtraTImm.toWord_mask (base mask : Word) (h : base &&& mask = base) (h2 : mask &&& 0xF08FFF0F = 0) (o : ExtraTImm) :
    o.toWord base &&& mask = base := by
  have hs := @slice_zero_of_and mask _ h2
  cases o
  simp (disch := first | decide | (apply hs; decide)) only [ExtraTImm.toWord, or_and_mask, place_and, placeBit_and, h,
    or_zero_word]

theorem ExtraTReg.ofWord_toWord (base : Word) (h : base &&& 0xF08FFF0F = 0) (o : ExtraTReg) : ExtraTReg.ofWord (o.toWord base) = o := by
  have hs := @slice_zero_of_and base _ h
  have hb := @bit_zero_of_and base _ h
  cases o
  simp (disch := decide) [ExtraTReg.ofWord, ExtraTReg.toWord, slice_or, bit_or, slice_place_same, slice_place_other, bit_place_other,
    bit_placeBit_same, bit_placeBit_other, slice_placeBit_other, hs, hb]

theorem ExtraTReg.toWord_mask (base mask : Word) (h : base &&& mask = base) (h2 : mask &&& 0xF08FFF0F = 0) (o : ExtraTReg) :
    o.toWord base &&& mask = base := by
  have hs := @slice_zero_of_and mask _ h2
  cases o
  simp (disch := first | decide | (apply hs; decide)) only [ExtraTReg.toWord, or_and_mask, place_and, placeBit_and, h,
    or_zero_word]

theorem MovwOp.ofWord_toWord (base : Word) (h : base &&& 0xF00FFFFF = 0) (o : MovwOp) : MovwOp.ofWord (o.toWord base) = o := by
  have hs := @slice_zero_of_and base _ h
  have hb := @bit_zero_of_and base _ h
  cases o
  simp (disch := decide) [MovwOp.ofWord, MovwOp.toWord, slice_or, bit_or, slice_place_same, slice_place_other, bit_place_other,
    bit_placeBit_same, bit_placeBit_other, slice_placeBit_other, hs, hb]

theorem MovwOp.toWord_mask (base mask : Word) (h : base &&& mask = base) (h2 : mask &&& 0xF00FFFFF = 0) (o : MovwOp) :
    o.toWord base &&& mask = base := by
  have hs := @slice_zero_of_and mask _ h2
  cases o
  simp (disch := first | decide | (apply hs; decide)) only [MovwOp.toWord, or_and_mask, place_and, placeBit_and, h,
    or_zero_word]

theorem HintOp.ofWord_toWord (base : Word) (h : base &&& 0xF000FF00 = 0) (o : HintOp) : HintOp.ofWord (o.toWord base) = o := by
  have hs := @slice_zero_of_and base _ h
  have hb := @bit_zero_of_and base _ h
  cases o
  simp (disch := decide) [HintOp.ofWord, HintOp.toWord, slice_or, bit_or, slice_place_same, slice_place_other, bit_place_other,
    bit_placeBit_same, bit_placeBit_other, slice_placeBit_other, hs, hb]

theorem HintOp.toWord_mask (base mask : Word) (h : base &&& mask = base) (h2 : mask &&& 0xF000FF00 = 0) (o : HintOp) :
    o.toWord base &&& mask = base := by
  have hs := @slice_zero_of_and mask _ h2
  cases o
  simp (disch := first | decide | (apply hs; decide)) only [HintOp.toWord, or_and_mask, place_and, placeBit_and, h,
    or_zero_word]

theorem DbgOp.ofWord_toWord (base : Word) (h : base &&& 0xF000FF0F = 0) (o : DbgOp) : DbgOp.ofWord (o.toWord base) = o := by
  have hs := @slice_zero_of_and base _ h
  have hb := @bit_zero_of_and base _ h
  cases o
  simp (disch := decide) [DbgOp.ofWord, DbgOp.toWord, slice_or, bit_or, slice_place_same, slice_place_other, bit_place_other,
    bit_placeBit_same, bit_placeBit_other, slice_placeBit_other, hs, hb]

theorem DbgOp.toWord_mask (base mask : Word) (h : base &&& mask = base) (h2 : mask &&& 0xF000FF0F = 0) (o : DbgOp) :
    o.toWord base &&& mask = base := by
  have hs := @slice_zero_of_and mask _ h2
  cases o
  simp (disch := first | decide | (apply hs; decide)) only [DbgOp.toWord, or_and_mask, place_and, placeBit_and, h,
    or_zero_word]

theorem HintUnallocOp.ofWord_toWord (base : Word) (h : base &&& 0xF000FFFF = 0) (o : HintUnallocOp) : HintUnallocOp.ofWord (o.toWord base) = o := by
  have hs := @slice_zero_of_and base _ h
  have hb := @bit_zero_of_and base _ h
  cases o
  simp (disch := decide) [HintUnallocOp.ofWord, HintUnallocOp.toWord, slice_or, bit_or, slice_place_same, slice_place_other, bit_place_other,
    bit_placeBit_same, bit_placeBit_other, slice_placeBit_other, hs, hb]

theorem HintUnallocOp.toWord_mask (base mask : Word) (h : base &&& mask = base) (h2 : mask &&& 0xF000FFFF = 0) (o : HintUnallocOp) :
    o.toWord base &&& mask = base := by
  have hs := @slice_zero_of_and mask _ h2
  cases o
  simp (disch := first | decide | (apply hs; decide)) only [HintUnallocOp.toWord, or_and_mask, place_and, placeBit_and, h,
    or_zero_word]

theorem MsrImmOp.ofWord_toWord (base : Word) (h : base &&& 0xF04FFFFF = 0) (o : MsrImmOp) : MsrImmOp.ofWord (o.toWord base) = o := by
  have hs := @slice_zero_of_and base _ h
  have hb := @bit_zero_of_and base _ h
  cases o
  simp (disch := decide) [MsrImmOp.ofWord, MsrImmOp.toWord, slice_or, bit_or, slice_place_same, slice_place_other, bit_place_other,
    bit_placeBit_same, bit_placeBit_other, slice_placeBit_other, hs, hb]

theorem MsrImmOp.toWord_mask (base mask : Word) (h : base &&& mask = base) (h2 : mask &&& 0xF04FFFFF = 0) (o : MsrImmOp) :
    o.toWord base &&& mask = base := by
  have hs := @slice_zero_of_and mask _ h2
  cases o
  simp (disch := first | decide | (apply hs; decide)) only [MsrImmOp.toWord, or_and_mask, place_and, placeBit_and, h,
    or_zero_word]

theorem DpImm.ofWord_toWord (base : Word) (h : base &&& 0xF01FFFFF = 0) (o : DpImm) : DpImm.ofWord (o.toWord base) = o := by
  have hs := @slice_zero_of_and base _ h
  have hb := @bit_zero_of_and base _ h
  cases o
  simp (disch := decide) [DpImm.ofWord, DpImm.toWord, slice_or, bit_or, slice_place_same, slice_place_other, bit_place_other,
    bit_placeBit_same, bit_placeBit_other, slice_placeBit_other, hs, hb]

theorem DpImm.toWord_mask (base mask : Word) (h : base &&& mask = base) (h2 : mask &&& 0xF01FFFFF = 0) (o : DpImm) :
    o.toWord base &&& mask = base := by
  have hs := @slice_zero_of_and mask _ h2
  cases o
  simp (disch := first | decide | (apply hs; decide)) only [DpImm.toWord, or_and_mask, place_and, placeBit_and, h,
    or_zero_word]

theorem DpReg.ofWord_toWord (base : Word) (h : base &&& 0xF01FFFEF = 0) (o : DpReg) : DpReg.ofWord (o.toWord base) = o := by
  have hs := @slice_zero_of_and base _ h
  have hb := @bit_zero_of_and base _ h
  cases o
  simp (disch := decide) [DpReg.ofWord, DpReg.toWord, slice_or, bit_or, slice_place_same, slice_place_other, bit_place_other,
    bit_placeBit_same, bit_placeBit_other, slice_placeBit_other, hs, hb]

theorem DpReg.toWord_mask (base mask : Word) (h : base &&& mask = base) (h2 : mask &&& 0xF01FFFEF = 0) (o : DpReg) :
    o.toWord base &&& mask = base := by
  have hs := @slice_zero_of_and mask _ h2
  cases o
  simp (disch := first | decide | (apply hs; decide)) only [DpReg.toWord, or_and_mask, place_and, placeBit_and, h,
    or_zero_word]

theorem DpRsr.ofWord_toWord (base : Word) (h : base &&& 0xF01FFF6F = 0) (o : DpRsr) : DpRsr.ofWord (o.toWord base) = o := by
  have hs := @slice_zero_of_and base _ h
  have hb := @bit_zero_of_and base _ h
  cases o
  simp (disch := decide) [DpRsr.ofWord, DpRsr.toWord, slice_or, bit_or, slice_place_same, slice_place_other, bit_place_other,
    bit_placeBit_same, bit_placeBit_other, slice_placeBit_other, hs, hb]

theorem DpRsr.toWord_mask (base mask : Word) (h : base &&& mask = base) (h2 : mask &&& 0xF01FFF6F = 0) (o : DpRsr) :
    o.toWord base &&& mask = base := by
  have hs := @slice_zero_of_and mask _ h2
  cases o
  simp (disch := first | decide | (apply hs; decide)) only [DpRsr.toWord, or_and_mask, place_and, placeBit_and, h,
    or_zero_word]

theorem CmpImm.ofWord_toWord (base : Word) (h : base &&& 0xF00FFFFF = 0) (o : CmpImm) : CmpImm.ofWord (o.toWord base) = o := by
  have hs := @slice_zero_of_and base _ h
  have hb := @bit_zero_of_and base _ h
  cases o
  simp (disch := decide) [CmpImm.ofWord, CmpImm.toWord, slice_or, bit_or, slice_place_same, slice_place_other, bit_place_other,
    bit_placeBit_same, bit_placeBit_other, slice_placeBit_other, hs, hb]

theorem CmpImm.toWord_mask (base mask : Word) (h : base &&& mask = base) (h2 : mask &&& 0xF00FFFFF = 0) (o : CmpImm) :
    o.toWord base &&& mask = base := by
  have hs := @slice_zero_of_and mask _ h2
  cases o
  simp (disch := first | decide | (apply hs; decide)) only [CmpImm.toWord, or_and_mask, place_and, placeBit_and, h,
    or_zero_word]

theorem CmpReg.ofWord_toWord (base : Word) (h : base &&& 0xF00FFFEF = 0) (o : CmpReg) : CmpReg.ofWord (o.toWord base) = o := by
  have hs := @slice_zero_of_and base _ h
  have hb := @bit_zero_of_and base _ h
  cases o
  simp (disch := decide) [CmpReg.ofWord, CmpReg.toWord, slice_or, bit_or, slice_place_same, slice_place_other, bit_place_other,
    bit_placeBit_same, bit_placeBit_other, slice_placeBit_other, hs, hb]

theorem CmpReg.toWord_mask (base mask : Word) (h : base &&& mask = base) (h2 : mask &&& 0xF00FFFEF = 0) (o : CmpReg) :
    o.toWord base &&& mask = base := by
  have hs := @slice_zero_of_and mask _ h2
  cases o
  simp (disch := first | decide | (apply hs; decide)) only [CmpReg.toWord, or_and_mask, place_and, placeBit_and, h,
    or_zero_word]

theorem CmpRsr.ofWord_toWord (base : Word) (h : base &&& 0xF00FFF6F = 0) (o : CmpRsr) : CmpRsr.ofWord (o.toWord base) = o := by
  have hs := @slice_zero_of_and base _ h
  have hb := @bit_zero_of_and base _ h
  cases o
  simp (disch := decide) [CmpRsr.ofWord, CmpRsr.toWord, slice_or, bit_or, slice_place_same, slice_place_other, bit_place_other,
    bit_placeBit_same, bit_placeBit_other, slice_placeBit_other, hs, hb]

theorem CmpRsr.toWord_mask (base mask : Word) (h : base &&& mask = base) (h2 : mask &&& 0xF00FFF6F = 0) (o : CmpRsr) :
    o.toWord base &&& mask = base := by
  have hs := @slice_zero_of_and mask _ h2
  cases o
  simp (disch := first | decide | (apply hs; decide)) only [CmpRsr.toWord, or_and_mask, place_and, placeBit_and, h,
    or_zero_word]

theorem MovImm.ofWord_toWord (base : Word) (h : base &&& 0xF01FFFFF = 0) (o : MovImm) : MovImm.ofWord (o.toWord base) = o := by
  have hs := @slice_zero_of_and base _ h
  have hb := @bit_zero_of_and base _ h
  cases o
  simp (disch := decide) [MovImm.ofWord, MovImm.toWord, slice_or, bit_or, slice_place_same, slice_place_other, bit_place_other,
    bit_placeBit_same, bit_placeBit_other, slice_placeBit_other, hs, hb]

theorem MovImm.toWord_mask (base mask : Word) (h : base &&& mask = base) (h2 : mask &&& 0xF01FFFFF = 0) (o : MovImm) :
    o.toWord base &&& mask = base := by
  have hs := @slice_zero_of_and mask _ h2
  cases o
  simp (disch := first | decide | (apply hs; decide)) only [MovImm.toWord, or_and_mask, place_and, placeBit_and, h,
    or_zero_word]

theorem MovReg.ofWord_toWord (base : Word) (h : base &&& 0xF01FF00F = 0) (o : MovReg) : MovReg.ofWord (o.toWord base) = o := by
  have hs := @slice_zero_of_and base _ h
  have hb := @bit_zero_of_and base _ h
  cases o
  simp (disch := decide) [MovReg.ofWord, MovReg.toWord, slice_or, bit_or, slice_place_same, slice_place_other, bit_place_other,
    bit_placeBit_same, bit_placeBit_other, slice_placeBit_other, hs, hb]

theorem MovReg.toWord_mask (base mask : Word) (h : base &&& mask = base) (h2 : mask &&& 0xF01FF00F = 0) (o : MovReg) :
    o.toWord base &&& mask = base := by
  have hs := @slice_zero_of_and mask _ h2
  cases o
  simp (disch := first | decide | (apply hs; decide)) only [MovReg.toWord, or_and_mask, place_and, placeBit_and, h,
    or_zero_word]

theorem ShiftImm.ofWord_toWord (base : Word) (h : base &&& 0xF01FFF8F = 0) (o : ShiftImm) : ShiftImm.ofWord (o.toWord base) = o := by
  have hs := @slice_zero_of_and base _ h
  have hb := @bit_zero_of_and base _ h
  cases o
  simp (disch := decide) [ShiftImm.ofWord, ShiftImm.toWord, slice_or, bit_or, slice_place_same, slice_place_other, bit_place_other,
    bit_placeBit_same, bit_placeBit_other, slice_placeBit_other, hs, hb]

theorem ShiftImm.toWord_mask (base mask : Word) (h : base &&& mask = base) (h2 : mask &&& 0xF01FFF8F = 0) (o : ShiftImm) :
    o.toWord base &&& mask = base := by
  have hs := @slice_zero_of_and mask _ h2
  cases o
  simp (disch := first | decide | (apply hs; decide)) only [ShiftImm.toWord, or_and_mask, place_and, placeBit_and, h,
    or_zero_word]

theorem ShiftReg.ofWord_toWord (base : Word) (h : base &&& 0xF01FFF0F = 0) (o : ShiftReg) : ShiftReg.ofWord (o.toWord base) = o := by
  have hs := @slice_zero_of_and base _ h
  have hb := @bit_zero_of_and base _ h
  cases o
  simp (disch := decide) [ShiftReg.ofWord, ShiftReg.toWord, slice_or, bit_or, slice_place_same, slice_place_other, bit_place_other,
    bit_placeBit_same, bit_placeBit_other, slice_placeBit_other, hs, hb]

theorem ShiftReg.toWord_mask (base mask : Word) (h : base &&& mask = base) (h2 : mask &&& 0xF01FFF0F = 0) (o : ShiftReg) :
    o.toWord base &&& mask = base := by
  have hs := @slice_zero_of_and mask _ h2
  cases o
  simp (disch := first | decide | (apply hs; decide)) only [ShiftReg.toWord, or_and_mask, place_and, placeBit_and, h,
    or_zero_word]

theorem MvnReg.ofWord_toWord (base : Word) (h : base &&& 0xF01FFFEF = 0) (o : MvnReg) : MvnReg.ofWord (o.toWord base) = o := by
  have hs := @slice_zero_of_and base _ h
  have hb := @bit_zero_of_and base _ h
  cases o
  simp (disch := decide) [MvnReg.ofWord, MvnReg.toWord, slice_or, bit_or, slice_place_same, slice_place_other, bit_place_other,
    bit_placeBit_same, bit_placeBit_other, slice_placeBit_other, hs, hb]

theorem MvnReg.toWord_mask (base mask : Word) (h : base &&& mask = base) (h2 : mask &&& 0xF01FFFEF = 0) (o : MvnReg) :
    o.toWord base &&& mask = base := by
  have hs := @slice_zero_of_and mask _ h2
  cases o
  simp (disch := first | decide | (apply hs; decide)) only [MvnReg.toWord, or_and_mask, place_and, placeBit_and, h,
    or_zero_word]

theorem MvnRsr.ofWord_toWord (base : Word) (h : base &&& 0xF01FFF6F = 0) (o : MvnRsr) : MvnRsr.ofWord (o.toWord base) = o := by
  have hs := @slice_zero_of_and base _ h
  have hb := @bit_zero_of_and base _ h
  cases o
  simp (disch := decide) [MvnRsr.ofWord, MvnRsr.toWord, slice_or, bit_or, slice_place_same, slice_place_other, bit_place_other,
    bit_placeBit_same, bit_placeBit_other, slice_placeBit_other, hs, hb]

theorem MvnRsr.toWord_mask (base mask : Word) (h : base &&& mask = base) (h2 : mask &&& 0xF01FFF6F = 0) (o : MvnRsr) :
    o.toWord base &&& mask = base := by
  have hs := @slice_zero_of_and mask _ h2
  cases o
  simp (disch := first | decide | (apply hs; decide)) only [MvnRsr.toWord, or_and_mask, place_and, placeBit_and, h,
    or_zero_word]

theorem LsImm.ofWord_toWord (base : Word) (h : base &&& 0xF1AFFFFF = 0) (o : LsImm) : LsImm.ofWord (o.toWord base) = o := by
  have hs := @slice_zero_of_and base _ h
  have hb := @bit_zero_of_and base _ h
  cases o
  simp (disch := decide) [LsImm.ofWord, LsImm.toWord, slice_or, bit_or, slice_place_same, slice_place_other, bit_place_other,
    bit_placeBit_same, bit_placeBit_other, slice_placeBit_other, hs, hb]

theorem LsImm.toWord_mask (base mask : Word) (h : base &&& mask = base) (h2 : mask &&& 0xF1AFFFFF = 0) (o : LsImm) :
    o.toWord base &&& mask = base := by
  have hs := @slice_zero_of_and mask _ h2
  cases o
  simp (disch := first | decide | (apply hs; decide)) only [LsImm.toWord, or_and_mask, place_and, placeBit_and, h,
    or_zero_word]

theorem LsReg.ofWord_toWord (base : Word) (h : base &&& 0xF1AFFFEF = 0) (o : LsReg) : LsReg.ofWord (o.toWord base) = o := by
  have hs := @slice_zero_of_and base _ h
  have hb := @bit_zero_of_and base _ h
  cases o
  simp (disch := decide) [LsReg.ofWord, LsReg.toWord, slice_or, bit_or, slice_place_same, slice_place_other, bit_place_other,
    bit_placeBit_same, bit_placeBit_other, slice_placeBit_other, hs, hb]

theorem LsReg.toWord_mask (base mask : Word) (h : base &&& mask = base) (h2 : mask &&& 0xF1AFFFEF = 0) (o : LsReg) :
    o.toWord base &&& mask = base := by
  have hs := @slice_zero_of_and mask _ h2
  cases o
  simp (disch := first | decide | (apply hs; decide)) only [LsReg.toWord, or_and_mask, place_and, placeBit_and, h,
    or_zero_word]

theorem LsTImm.ofWord_toWord (base : Word) (h : base &&& 0xF08FFFFF = 0) (o : LsTImm) : LsTImm.ofWord (o.toWord base) = o := by
  have hs := @slice_zero_of_and base _ h
  have hb := @bit_zero_of_and base _ h
  cases o
  simp (disch := decide) [LsTImm.ofWord, LsTImm.toWord, slice_or, bit_or, slice_place_same, slice_place_other, bit_place_other,
    bit_placeBit_same, bit_placeBit_other, slice_placeBit_other, hs, hb]

theorem LsTImm.toWord_mask (base mask : Word) (h : base &&& mask = base) (h2 : mask &&& 0xF08FFFFF = 0) (o : LsTImm) :
    o.toWord base &&& mask = base := by
  have hs := @slice_zero_of_and mask _ h2
  cases o
  simp (disch := first | decide | (apply hs; decide)) only [LsTImm.toWord, or_and_mask, place_and, placeBit_and, h,
    or_zero_word]

theorem LsTReg.ofWord_toWord (base : Word) (h : base &&& 0xF08FFFEF = 0) (o : LsTReg) : LsTReg.ofWord (o.toWord base) = o := by
  have hs := @slice_zero_of_and base _ h
  have hb := @bit_zero_of_and base _ h
  cases o
  simp (disch := decide) [LsTReg.ofWord, LsTReg.toWord, slice_or, bit_or, slice_place_same, slice_place_other, bit_place_other,
    bit_placeBit_same, bit_placeBit_other, slice_placeBit_other, hs, hb]

theorem LsTReg.toWord_mask (base mask : Word) (h : base &&& mask = base) (h2 : mask &&& 0xF08FFFEF = 0) (o : LsTReg) :
    o.toWord base &&& mask = base := by
  have hs := @slice_zero_of_and mask _ h2
  cases o
  simp (disch := first | decide | (apply hs; decide)) only [LsTReg.toWord, or_and_mask, place_and, placeBit_and, h,
    or_zero_word]

theorem ExtendOp.ofWord_toWord (base : Word) (h : base &&& 0xF000FF0F = 0) (o : ExtendOp) : ExtendOp.ofWord (o.toWord base) = o := by
  have hs := @slice_zero_of_and base _ h
  have hb := @bit_zero_of_and base _ h
  cases o
  simp (disch := decide) [ExtendOp.ofWord, ExtendOp.toWord, slice_or, bit_or, slice_place_same, slice_place_other, bit_place_other,
    bit_placeBit_same, bit_placeBit_other, slice_placeBit_other, hs, hb]

theorem ExtendOp.toWord_mask (base mask : Word) (h : base &&& mask = base) (h2 : mask &&& 0xF000FF0F = 0) (o : ExtendOp) :
    o.toWord base &&& mask = base := by
  have hs := @slice_zero_of_and mask _ h2
  cases o
  simp (disch := first | decide | (apply hs; decide)) only [ExtendOp.toWord, or_and_mask, place_and, placeBit_and, h,
    or_zero_word]

theorem ExtendAddOp.ofWord_toWord (base : Word) (h : base &&& 0xF00FFF0F = 0) (o : ExtendAddOp) : ExtendAddOp.ofWord (o.toWord base) = o := by
  have hs := @slice_zero_of_and base _ h
  have hb := @bit_zero_of_and base _ h
  cases o
  simp (disch := decide) [ExtendAddOp.ofWord, ExtendAddOp.toWord, slice_or, bit_or, slice_place_same, slice_place_other, bit_place_other,
    bit_placeBit_same, bit_placeBit_other, slice_placeBit_other, hs, hb]

theorem ExtendAddOp.toWord_mask (base mask : Word) (h : base &&& mask = base) (h2 : mask &&& 0xF00FFF0F = 0) (o : ExtendAddOp) :
    o.toWord base &&& mask = base := by
  have hs := @slice_zero_of_and mask _ h2
  cases o
  simp (disch := first | decide | (apply hs; decide)) only [ExtendAddOp.toWord, or_and_mask, place_and, placeBit_and, h,
    or_zero_word]

theorem BfxOp.ofWord_toWord (base : Word) (h : base &&& 0xF01FFF8F = 0) (o : BfxOp) : BfxOp.ofWord (o.toWord base) = o := by
  have hs := @slice_zero_of_and base _ h
  have hb := @bit_zero_of_and base _ h
  cases o
  simp (disch := decide) [BfxOp.ofWord, BfxOp.toWord, slice_or, bit_or, slice_place_same, slice_place_other, bit_place_other,
    bit_placeBit_same, bit_placeBit_other, slice_placeBit_other, hs, hb]

theorem BfxOp.toWord_mask (base mask : Word) (h : base &&& mask = base) (h2 : mask &&& 0xF01FFF8F = 0) (o : BfxOp) :
    o.toWord base &&& mask = base := by
  have hs := @slice_zero_of_and mask _ h2
  cases o
  simp (disch := first | decide | (apply hs; decide)) only [BfxOp.toWord, or_and_mask, place_and, placeBit_and, h,
    or_zero_word]

theorem BfcOp.ofWord_toWord (base : Word) (h : base &&& 0xF01FFF80 = 0) (o : BfcOp) : BfcOp.ofWord (o.toWord base) = o := by
  have hs := @slice_zero_of_and base _ h
  have hb := @bit_zero_of_and base _ h
  cases o
  simp (disch := decide) [BfcOp.ofWord, BfcOp.toWord, slice_or, bit_or, slice_place_same, slice_place_other, bit_place_other,
    bit_placeBit_same, bit_placeBit_other, slice_placeBit_other, hs, hb]

theorem BfcOp.toWord_mask (base mask : Word) (h : base &&& mask = base) (h2 : mask &&& 0xF01FFF80 = 0) (o : BfcOp) :
    o.toWord base &&& mask = base := by
  have hs := @slice_zero_of_and mask _ h2
  cases o
  simp (disch := first | decide | (apply hs; decide)) only [BfcOp.toWord, or_and_mask, place_and, placeBit_and, h,
    or_zero_word]

theorem BfiOp.ofWord_toWord (base : Word) (h : base &&& 0xF01FFF8F = 0) (o : BfiOp) : BfiOp.ofWord (o.toWord base) = o := by
  have hs := @slice_zero_of_and base _ h
  have hb := @bit_zero_of_and base _ h
  cases o
  simp (disch := decide) [BfiOp.ofWord, BfiOp.toWord, slice_or, bit_or, slice_place_same, slice_place_other, bit_place_other,
    bit_placeBit_same, bit_placeBit_other, slice_placeBit_other, hs, hb]

theorem BfiOp.toWord_mask (base mask : Word) (h : base &&& mask = base) (h2 : mask &&& 0xF01FFF8F = 0) (o : BfiOp) :
    o.toWord base &&& mask = base := by
  have hs := @slice_zero_of_and mask _ h2
  cases o
  simp (disch := first | decide | (apply hs; decide)) only [BfiOp.toWord, or_and_mask, place_and, placeBit_and, h,
    or_zero_word]

theorem LdmExcOp.ofWord_toWord (base : Word) (h : base &&& 0xF1AF7FFF = 0) (o : LdmExcOp) : LdmExcOp.ofWord (o.toWord base) = o := by
  have hs := @slice_zero_of_and base _ h
  have hb := @bit_zero_of_and base _ h
  cases o
  simp (disch := decide) [LdmExcOp.ofWord, LdmExcOp.toWord, slice_or, bit_or, slice_place_same, slice_place_other, bit_place_other,
    bit_placeBit_same, bit_placeBit_other, slice_placeBit_other, hs, hb]

theorem LdmExcOp.toWord_mask (base mask : Word) (h : base &&& mask = base) (h2 : mask &&& 0xF1AF7FFF = 0) (o : LdmExcOp) :
    o.toWord base &&& mask = base := by
  have hs := @slice_zero_of_and mask _ h2
  cases o
  simp (disch := first | decide | (apply hs; decide)) only [LdmExcOp.toWord, or_and_mask, place_and, placeBit_and, h,
    or_zero_word]

theorem LdmUserOp.ofWord_toWord (base : Word) (h : base &&& 0xF1AF7FFF = 0) (o : LdmUserOp) : LdmUserOp.ofWord (o.toWord base) = o := by
  have hs := @slice_zero_of_and base _ h
  have hb := @bit_zero_of_and base _ h
  cases o
  simp (disch := decide) [LdmUserOp.ofWord, LdmUserOp.toWord, slice_or, bit_or, slice_place_same, slice_place_other, bit_place_other,
    bit_placeBit_same, bit_placeBit_other, slice_placeBit_other, hs, hb]

theorem LdmUserOp.toWord_mask (base mask : Word) (h : base &&& mask = base) (h2 : mask &&& 0xF1AF7FFF = 0) (o : LdmUserOp) :
    o.toWord base &&& mask = base := by
  have hs := @slice_zero_of_and mask _ h2
  cases o
  simp (disch := first | decide | (apply hs; decide)) only [LdmUserOp.toWord, or_and_mask, place_and, placeBit_and, h,
    or_zero_word]

theorem StmUserOp.ofWord_toWord (base : Word) (h : base &&& 0xF1AFFFFF = 0) (o : StmUserOp) : StmUserOp.ofWord (o.toWord base) = o := by
  have hs := @slice_zero_of_and base _ h
  have hb := @bit_zero_of_and base _ h
  cases o
  simp (disch := decide) [StmUserOp.ofWord, StmUserOp.toWord, slice_or, bit_or, slice_place_same, slice_place_other, bit_place_other,
    bit_placeBit_same, bit_placeBit_other, slice_placeBit_other, hs, hb]

theorem StmUserOp.toWord_mask (base mask : Word) (h : base &&& mask = base) (h2 : mask &&& 0xF1AFFFFF = 0) (o : StmUserOp) :
    o.toWord base &&& mask = base := by
  have hs := @slice_zero_of_and mask _ h2
  cases o
  simp (disch := first | decide | (apply hs; decide)) only [StmUserOp.toWord, or_and_mask, place_and, placeBit_and, h,
    or_zero_word]

theorem BlockOp.ofWord_toWord (base : Word) (h : base &&& 0xF02FFFFF = 0) (o : BlockOp) : BlockOp.ofWord (o.toWord base) = o := by
  have hs := @slice_zero_of_and base _ h
  have hb := @bit_zero_of_and base _ h
  cases o
  simp (disch := decide) [BlockOp.ofWord, BlockOp.toWord, slice_or, bit_or, slice_place_same, slice_place_other, bit_place_other,
    bit_placeBit_same, bit_placeBit_other, slice_placeBit_other, hs, hb]

theorem BlockOp.toWord_mask (base mask : Word) (h : base &&& mask = base) (h2 : mask &&& 0xF02FFFFF = 0) (o : BlockOp) :
    o.toWord base &&& mask = base := by
  have hs := @slice_zero_of_and mask _ h2
  cases o
  simp (disch := first | decide | (apply hs; decide)) only [BlockOp.toWord, or_and_mask, place_and, placeBit_and, h,
    or_zero_word]

theorem BranchOp.ofWord_toWord (base : Word) (h : base &&& 0xF0FFFFFF = 0) (o : BranchOp) : BranchOp.ofWord (o.toWord base) = o := by
  have hs := @slice_zero_of_and base _ h
  have hb := @bit_zero_of_and base _ h
  cases o
  simp (disch := decide) [BranchOp.ofWord, BranchOp.toWord, slice_or, bit_or, slice_place_same, slice_place_other, bit_place_other,
    bit_placeBit_same, bit_placeBit_other, slice_placeBit_other, hs, hb]

theorem BranchOp.toWord_mask (base mask : Word) (h : base &&& mask = base) (h2 : mask &&& 0xF0FFFFFF = 0) (o : BranchOp) :
    o.toWord base &&& mask = base := by
  have hs := @slice_zero_of_and mask _ h2
  cases o
  simp (disch := first | decide | (apply hs; decide)) only [BranchOp.toWord, or_and_mask, place_and, placeBit_and, h,
    or_zero_word]

theorem Cp15Op.ofWord_toWord (base : Word) (h : base &&& 0xF0EFF0EF = 0) (o : Cp15Op) : Cp15Op.ofWord (o.toWord base) = o := by
  have hs := @slice_zero_of_and base _ h
  have hb := @bit_zero_of_and base _ h
  cases o
  simp (disch := decide) [Cp15Op.ofWord, Cp15Op.toWord, slice_or, bit_or, slice_place_same, slice_place_other, bit_place_other,
    bit_placeBit_same, bit_placeBit_other, slice_placeBit_other, hs, hb]

theorem Cp15Op.toWord_mask (base mask : Word) (h : base &&& mask = base) (h2 : mask &&& 0xF0EFF0EF = 0) (o : Cp15Op) :
    o.toWord base &&& mask = base := by
  have hs := @slice_zero_of_and mask _ h2
  cases o
  simp (disch := first | decide | (apply hs; decide)) only [Cp15Op.toWord, or_and_mask, place_and, placeBit_and, h,
    or_zero_word]

theorem McrrOp.ofWord_toWord (base : Word) (h : base &&& 0xF01FFFFF = 0) (o : McrrOp) : McrrOp.ofWord (o.toWord base) = o := by
  have hs := @slice_zero_of_and base _ h
  have hb := @bit_zero_of_and base _ h
  cases o
  simp (disch := decide) [McrrOp.ofWord, McrrOp.toWord, slice_or, bit_or, slice_place_same, slice_place_other, bit_place_other,
    bit_placeBit_same, bit_placeBit_other, slice_placeBit_other, hs, hb]

theorem McrrOp.toWord_mask (base mask : Word) (h : base &&& mask = base) (h2 : mask &&& 0xF01FFFFF = 0) (o : McrrOp) :
    o.toWord base &&& mask = base := by
  have hs := @slice_zero_of_and mask _ h2
  cases o
  simp (disch := first | decide | (apply hs; decide)) only [McrrOp.toWord, or_and_mask, place_and, placeBit_and, h,
    or_zero_word]

theorem StcOp.ofWord_toWord (base : Word) (h : base &&& 0xF1FFFFFF = 0) (o : StcOp) : StcOp.ofWord (o.toWord base) = o := by
  have hs := @slice_zero_of_and base _ h
  have hb := @bit_zero_of_and base _ h
  cases o
  simp (disch := decide) [StcOp.ofWord, StcOp.toWord, slice_or, bit_or, slice_place_same, slice_place_other, bit_place_other,
    bit_placeBit_same, bit_placeBit_other, slice_placeBit_other, hs, hb]

theorem StcOp.toWord_mask (base mask : Word) (h : base &&& mask = base) (h2 : mask &&& 0xF1FFFFFF = 0) (o : StcOp) :
    o.toWord base &&& mask = base := by
  have hs := @slice_zero_of_and mask _ h2
  cases o
  simp (disch := first | decide | (apply hs; decide)) only [StcOp.toWord, or_and_mask, place_and, placeBit_and, h,
    or_zero_word]

theorem CdpOp.ofWord_toWord (base : Word) (h : base &&& 0xF0FFFFEF = 0) (o : CdpOp) : CdpOp.ofWord (o.toWord base) = o := by
  have hs := @slice_zero_of_and base _ h
  have hb := @bit_zero_of_and base _ h
  cases o
  simp (disch := decide) [CdpOp.ofWord, CdpOp.toWord, slice_or, bit_or, slice_place_same, slice_place_other, bit_place_other,
    bit_placeBit_same, bit_placeBit_other, slice_placeBit_other, hs, hb]

theorem CdpOp.toWord_mask (base mask : Word) (h : base &&& mask = base) (h2 : mask &&& 0xF0FFFFEF = 0) (o : CdpOp) :
    o.toWord base &&& mask = base := by
  have hs := @slice_zero_of_and mask _ h2
  cases o
  simp (disch := first | decide | (apply hs; decide)) only [CdpOp.toWord, or_and_mask, place_and, placeBit_and, h,
    or_zero_word]

theorem McrOtherOp.ofWord_toWord (base : Word) (h : base &&& 0xF0FFFFEF = 0) (o : McrOtherOp) : McrOtherOp.ofWord (o.toWord base) = o := by
  have hs := @slice_zero_of_and base _ h
  have hb := @bit_zero_of_and base _ h
  cases o
  simp (disch := decide) [McrOtherOp.ofWord, McrOtherOp.toWord, slice_or, bit_or, slice_place_same, slice_place_other, bit_place_other,
    bit_placeBit_same, bit_placeBit_other, slice_placeBit_other, hs, hb]

theorem McrOtherOp.toWord_mask (base mask : Word) (h : base &&& mask = base) (h2 : mask &&& 0xF0FFFFEF = 0) (o : McrOtherOp) :
    o.toWord base &&& mask = base := by
  have hs := @slice_zero_of_and mask _ h2
  cases o
  simp (disch := first | decide | (apply hs; decide)) only [McrOtherOp.toWord, or_and_mask, place_and, placeBit_and, h,
    or_zero_word]

end Sys2Proof
end

