-- ==== Sys2Proof/Laws/Memory.lean ====
section
/-! SUPPORT. The laws of the memory: every operation keeps the canonical form, a read after a write to the same address
gives the byte written, and a write leaves every other address alone. -/

namespace Sys2Proof.Machine

theorem cellsFrom_cons {lo k : Nat} {b : Byte} {l : List Host.Cell} (h : cellsFrom lo ((k, b) :: l) = true) :
    lo ≤ k ∧ k < 2 ^ 32 ∧ b ≠ unlistedByte ∧ cellsFrom (k + 1) l = true := by
  simpa [cellsFrom, and_assoc] using h

theorem cellsFrom_mk {lo k : Nat} {b : Byte} {l : List Host.Cell} (h1 : lo ≤ k) (h2 : k < 2 ^ 32)
    (h3 : b ≠ unlistedByte) (h4 : cellsFrom (k + 1) l = true) : cellsFrom lo ((k, b) :: l) = true := by
  simp [cellsFrom, h1, h3, h4]
  simpa using h2

theorem cellsFrom_le {lo lo' : Nat} : ∀ {l : List Host.Cell}, lo' ≤ lo → cellsFrom lo l = true → cellsFrom lo' l = true
  | [], _, _ => rfl
  | (_, _) :: _, hl, h => by
    obtain ⟨h1, h2, h3, h4⟩ := cellsFrom_cons h
    exact cellsFrom_mk (le_trans hl h1) h2 h3 h4

/-- Below its lowest address a canonical list reads as an unlisted address does. -/
theorem readCells_below : ∀ {l : List Host.Cell} {lo a : Nat}, cellsFrom lo l = true → a < lo →
    readCells l a = unlistedByte
  | [], _, _, _, _ => rfl
  | (k, _) :: _, lo, a, h, ha => by
    obtain ⟨h1, -, -, h4⟩ := cellsFrom_cons h
    unfold readCells
    rw [if_neg (by omega)]
    exact readCells_below h4 (by omega)

theorem writeCells_canonical : ∀ {l : List Host.Cell} {lo a : Nat} (b : Byte), cellsFrom lo l = true → lo ≤ a →
    a < 2 ^ 32 → cellsFrom lo (writeCells l a b) = true
  | [], lo, a, b, _, hlo, ha => by
    unfold writeCells
    split
    · rfl
    · exact cellsFrom_mk hlo ha ‹_› rfl
  | (k, c) :: rest, lo, a, b, h, hlo, ha => by
    obtain ⟨h1, h2, h3, h4⟩ := cellsFrom_cons h
    unfold writeCells
    split
    · split
      · exact h
      · exact cellsFrom_mk hlo ha ‹_› (cellsFrom_mk (by omega) h2 h3 h4)
    · split
      · subst_vars
        split
        · exact cellsFrom_le (by omega) h4
        · exact cellsFrom_mk hlo ha ‹_› h4
      · exact cellsFrom_mk h1 h2 h3 (writeCells_canonical b h4 (by omega) ha)

theorem readCells_writeCells : ∀ {l : List Host.Cell} {lo : Nat} (a : Nat) (b : Byte) (x : Nat), cellsFrom lo l = true →
    readCells (writeCells l a b) x = if x = a then b else readCells l x
  | [], _, a, b, x, _ => by
    unfold writeCells
    split
    · by_cases hx : x = a <;> simp [readCells, hx, ‹b = unlistedByte›]
    · by_cases hx : x = a
      · simp [readCells, hx]
      · simp [readCells, hx, show ¬ a = x from fun e => hx e.symm]
  | (k, c) :: rest, lo, a, b, x, h => by
    obtain ⟨h1, h2, h3, h4⟩ := cellsFrom_cons h
    have below : x < k + 1 → readCells rest x = unlistedByte := readCells_below h4
    have ih := readCells_writeCells a b x h4
    unfold writeCells
    split
    · split
      · by_cases hx : x = a
        · subst hx
          simp [readCells, show ¬ k = x by omega, below (by omega), ‹b = unlistedByte›]
        · simp [hx]
      · by_cases hx : x = a
        · simp [readCells, hx]
        · simp [readCells, hx, show ¬ a = x by omega]
    · split
      · subst_vars
        split
        · by_cases hx : x = a
          · subst hx
            simp [below, ‹b = unlistedByte›]
          · simp [readCells, hx, show ¬ a = x by omega]
        · by_cases hx : x = a
          · simp [readCells, hx]
          · simp [readCells, hx, show ¬ a = x by omega]
      · by_cases hx : x = a
        · subst hx
          simp [readCells, show ¬ k = x by omega, ih]
        · by_cases hk : k = x
          · simp [readCells, hk, hx]
          · simp [readCells, hk, hx, ih]

/-- A write keeps the canonical form. -/
theorem Memory.write_wf {m : Memory} (pa : Word) (b : Byte) (h : m.wf = true) : (m.write pa b).wf = true :=
  writeCells_canonical b h (Nat.zero_le _) pa.isLt

/-- Reading after a write: the byte written at its address, the old byte elsewhere. -/
theorem Memory.read_write {m : Memory} (pa : Word) (b : Byte) (x : Word) (h : m.wf = true) :
    (m.write pa b).read x = if x = pa then b else m.read x := by
  have := readCells_writeCells pa.toNat b x.toNat h
  simp only [Memory.read, Memory.write, this, BitVec.toNat_inj]

theorem Memory.writeBytes_wf : ∀ (n : Nat) {m : Memory} (pa v : Word), m.wf = true → (m.writeBytes pa n v).wf = true
  | 0, _, _, _, h => h
  | n + 1, _, pa, v, h => Memory.writeBytes_wf n (pa + 1) (v >>> 8) (Memory.write_wf pa (byteOf v 0) h)

/-- A write of `n` bytes leaves every byte outside them alone. -/
theorem Memory.read_writeBytes_outside : ∀ (n : Nat) {m : Memory} (pa v x : Word), m.wf = true →
    (∀ k : Nat, k < n → x ≠ pa + BitVec.ofNat 32 k) → (m.writeBytes pa n v).read x = m.read x
  | 0, _, _, _, _, _, _ => rfl
  | n + 1, m, pa, v, x, h, hx => by
    have h0 : x ≠ pa := by simpa using hx 0 (Nat.zero_lt_succ n)
    unfold Memory.writeBytes
    rw [Memory.read_writeBytes_outside n _ _ x (Memory.write_wf pa _ h), Memory.read_write pa _ x h, if_neg h0]
    intro k hk
    have := hx (k + 1) (Nat.succ_lt_succ hk)
    rwa [show pa + 1 + BitVec.ofNat 32 k = pa + BitVec.ofNat 32 (k + 1) by
      rw [BitVec.ofNat_add, BitVec.add_assoc, BitVec.add_comm 1]
      rfl]

/-- R105: an address is volatile exactly if some window holds it. -/
theorem volatileAt_iff (p : Params) (pa : Word) :
    volatileAt p pa = true ↔ ∃ x ∈ p.volatile, x.first ≤ pa ∧ pa ≤ x.last := by
  simp [volatileAt]

/-- R100: a read of the port at an address that no window holds answers what memory holds. -/
theorem State.portByte_plain {s : State} {pa : Word} (r : PortRead) (h : volatileAt s.params pa = false) :
    s.portByte r pa = s.mem.read pa := by
  simp [State.portByte, h]

/-- R105: a read of the port at an address that some window holds answers a free byte. -/
theorem State.portByte_volatile {s : State} {pa : Word} (r : PortRead) (h : volatileAt s.params pa = true) :
    s.portByte r pa = Config.volatileByte s.draws r pa := if_pos h

/-- R100: what the port answers depends on memory, the windows and the count of draws alone. -/
theorem State.physRead_congr {s t : State} (hm : t.mem = s.mem) (hp : t.params = s.params) (hd : t.draws = s.draws)
    (r : PortRead) (pa : Word) (w : Width) : t.physRead r pa w = s.physRead r pa w := by
  unfold State.physRead
  congr 1
  funext a
  simp only [State.portByte, hm, hp, hd]

/-- The state's physical write keeps the canonical form. -/
theorem State.physWrite_wf {s : State} (pa : Word) (w : Width) (v : Word) (h : s.mem.wf = true) :
    (s.physWrite pa w v).mem.wf = true :=
  Memory.writeBytes_wf _ _ _ h

/-- The memory after reset lists nothing and is canonical. -/
theorem State.reset_mem_wf : State.reset.mem.wf = true := rfl

end Sys2Proof.Machine
end

