-- ==== Sys2Proof/Laws/PerInstr.lean ====
section
/-! SUPPORT. One lemma for each instruction: the word of a well-formed instruction has the fixed bits of its own row of the
opcode table. -/

namespace Sys2Proof.Laws

open Machine (Pattern patterns firstRow rowIndex)

/-- The word of a well-formed instruction matches the pattern of its row. -/
def EncodeInRow.Statement (i : Instr) : Prop :=
  i.wf = true → (patterns.getD i.row ⟨0, 0⟩).hits (encode i) = true

/-- The first matching pattern matches. -/
theorem firstRow_hits (w : Word) : ∀ (ps : List Pattern) (k : Nat), firstRow w ps = k → k < ps.length →
    (ps.getD k ⟨0, 0⟩).hits w = true
  | [], k, _, hk => absurd hk (Nat.not_lt_zero k)
  | p :: ps, k, h, hk => by
    unfold firstRow at h
    by_cases hp : p.hits w = true
    · rw [if_pos hp] at h
      subst h
      exact hp
    · rw [if_neg hp] at h
      subst h
      exact firstRow_hits w ps _ rfl (Nat.lt_of_succ_lt_succ hk)

/-- R161: the table has 220 rows. -/
theorem patterns_length : patterns.length = 220 := by decide +kernel

/-- The same for a term that carries its whole word. -/
theorem raw_hits {w : Word} {k : Nat} (hk : k < 220) (h : (rowIndex w == k) = true) :
    (patterns.getD k ⟨0, 0⟩).hits w = true :=
  firstRow_hits w patterns k (eq_of_beq h) (patterns_length ▸ hk)

theorem EncodeInRow.cps (o : CpsOp) : EncodeInRow.Statement (.cps o) := fun _ =>
  beq_iff_eq.mpr (CpsOp.toWord_mask 0xF1000000 0xFFF10020 (by decide) (by decide) o)

theorem EncodeInRow.setend (o : SetendOp) : EncodeInRow.Statement (.setend o) := fun _ =>
  beq_iff_eq.mpr (SetendOp.toWord_mask 0xF1010000 0xFFFF00F0 (by decide) (by decide) o)

theorem EncodeInRow.simdDataProcessing (w : Word) : EncodeInRow.Statement (.simdDataProcessing w) := raw_hits (by decide)

theorem EncodeInRow.simdLoadStore (w : Word) : EncodeInRow.Statement (.simdLoadStore w) := raw_hits (by decide)

theorem EncodeInRow.memHintImm (w : Word) : EncodeInRow.Statement (.memHintImm w) := raw_hits (by decide)

theorem EncodeInRow.pliImm (o : PreloadImm) : EncodeInRow.Statement (.pliImm o) := fun _ =>
  beq_iff_eq.mpr (PreloadImm.toWord_mask 0xF4500000 0xFF700000 (by decide) (by decide) o)

theorem EncodeInRow.unpredPldwImm (w : Word) : EncodeInRow.Statement (.unpredPldwImm w) := raw_hits (by decide)

theorem EncodeInRow.pldwImm (o : PreloadImm) : EncodeInRow.Statement (.pldwImm o) := fun _ =>
  beq_iff_eq.mpr (PreloadImm.toWord_mask 0xF5100000 0xFF700000 (by decide) (by decide) o)

theorem EncodeInRow.pldImm (o : PreloadImm) : EncodeInRow.Statement (.pldImm o) := fun _ =>
  beq_iff_eq.mpr (PreloadImm.toWord_mask 0xF5500000 0xFF700000 (by decide) (by decide) o)

theorem EncodeInRow.unpredUncond1010011 (w : Word) : EncodeInRow.Statement (.unpredUncond1010011 w) := raw_hits (by decide)

theorem EncodeInRow.clrex (o : ClrexOp) : EncodeInRow.Statement (.clrex o) := fun _ =>
  beq_iff_eq.mpr (ClrexOp.toWord_mask 0xF5700010 0xFFF000F0 (by decide) (by decide) o)

theorem EncodeInRow.dsb (o : BarrierOp) : EncodeInRow.Statement (.dsb o) := fun _ =>
  beq_iff_eq.mpr (BarrierOp.toWord_mask 0xF5700040 0xFFF000F0 (by decide) (by decide) o)

theorem EncodeInRow.dmb (o : BarrierOp) : EncodeInRow.Statement (.dmb o) := fun _ =>
  beq_iff_eq.mpr (BarrierOp.toWord_mask 0xF5700050 0xFFF000F0 (by decide) (by decide) o)

theorem EncodeInRow.isb (o : BarrierOp) : EncodeInRow.Statement (.isb o) := fun _ =>
  beq_iff_eq.mpr (BarrierOp.toWord_mask 0xF5700060 0xFFF000F0 (by decide) (by decide) o)

theorem EncodeInRow.unpredUncond1010111 (w : Word) : EncodeInRow.Statement (.unpredUncond1010111 w) := raw_hits (by decide)

theorem EncodeInRow.unpredUncond1011x11 (w : Word) : EncodeInRow.Statement (.unpredUncond1011x11 w) := raw_hits (by decide)

theorem EncodeInRow.memHintReg (w : Word) : EncodeInRow.Statement (.memHintReg w) := raw_hits (by decide)

theorem EncodeInRow.pliReg (o : PreloadReg) : EncodeInRow.Statement (.pliReg o) := fun _ =>
  beq_iff_eq.mpr (PreloadReg.toWord_mask 0xF6500000 0xFF700010 (by decide) (by decide) o)

theorem EncodeInRow.pldwReg (o : PreloadReg) : EncodeInRow.Statement (.pldwReg o) := fun _ =>
  beq_iff_eq.mpr (PreloadReg.toWord_mask 0xF7100000 0xFF700010 (by decide) (by decide) o)

theorem EncodeInRow.pldReg (o : PreloadReg) : EncodeInRow.Statement (.pldReg o) := fun _ =>
  beq_iff_eq.mpr (PreloadReg.toWord_mask 0xF7500000 0xFF700010 (by decide) (by decide) o)

theorem EncodeInRow.unpredUncond11xxx11 (w : Word) : EncodeInRow.Statement (.unpredUncond11xxx11 w) := raw_hits (by decide)

theorem EncodeInRow.undefUncondMisc (w : Word) : EncodeInRow.Statement (.undefUncondMisc w) := raw_hits (by decide)

theorem EncodeInRow.srs (w : Word) : EncodeInRow.Statement (.srs w) := raw_hits (by decide)

theorem EncodeInRow.rfe (w : Word) : EncodeInRow.Statement (.rfe w) := raw_hits (by decide)

theorem EncodeInRow.blxImm (o : BlxImmOp) : EncodeInRow.Statement (.blxImm o) := fun _ =>
  beq_iff_eq.mpr (BlxImmOp.toWord_mask 0xFA000000 0xFE000000 (by decide) (by decide) o)

theorem EncodeInRow.undefUncond1100000 (w : Word) : EncodeInRow.Statement (.undefUncond1100000 w) := raw_hits (by decide)

theorem EncodeInRow.vfpUncondLoadStore (w : Word) : EncodeInRow.Statement (.vfpUncondLoadStore w) := raw_hits (by decide)

theorem EncodeInRow.vfpUncondData (w : Word) : EncodeInRow.Statement (.vfpUncondData w) := raw_hits (by decide)

theorem EncodeInRow.mcrr2 (o : Mcrr2Op) : EncodeInRow.Statement (.mcrr2 o) := fun _ =>
  beq_iff_eq.mpr (Mcrr2Op.toWord_mask 0xFC400000 0xFFE00000 (by decide) (by decide) o)

theorem EncodeInRow.stc2 (o : Stc2Op) : EncodeInRow.Statement (.stc2 o) := fun _ =>
  beq_iff_eq.mpr (Stc2Op.toWord_mask 0xFC000000 0xFE000000 (by decide) (by decide) o)

theorem EncodeInRow.cdp2 (o : Cdp2Op) : EncodeInRow.Statement (.cdp2 o) := fun _ =>
  beq_iff_eq.mpr (Cdp2Op.toWord_mask 0xFE000000 0xFF000010 (by decide) (by decide) o)

theorem EncodeInRow.mcr2 (o : Mcr2Op) : EncodeInRow.Statement (.mcr2 o) := fun _ =>
  beq_iff_eq.mpr (Mcr2Op.toWord_mask 0xFE000010 0xFF000010 (by decide) (by decide) o)

theorem EncodeInRow.undefUncondOther (w : Word) : EncodeInRow.Statement (.undefUncondOther w) := raw_hits (by decide)

theorem EncodeInRow.mrsMsrBanked (w : Word) : EncodeInRow.Statement (.mrsMsrBanked w) := raw_hits (by decide)

theorem EncodeInRow.mrs (o : MrsOp) : EncodeInRow.Statement (.mrs o) := fun _ =>
  beq_iff_eq.mpr (MrsOp.toWord_mask 0x01000000 0x0FB002F0 (by decide) (by decide) o)

theorem EncodeInRow.msrReg (o : MsrRegOp) : EncodeInRow.Statement (.msrReg o) := fun _ =>
  beq_iff_eq.mpr (MsrRegOp.toWord_mask 0x01200000 0x0FB002F0 (by decide) (by decide) o)

theorem EncodeInRow.bx (o : BxOp) : EncodeInRow.Statement (.bx o) := fun _ =>
  beq_iff_eq.mpr (BxOp.toWord_mask 0x01200010 0x0FF000F0 (by decide) (by decide) o)

theorem EncodeInRow.clz (o : UnaryOp) : EncodeInRow.Statement (.clz o) := fun _ =>
  beq_iff_eq.mpr (UnaryOp.toWord_mask 0x01600010 0x0FF000F0 (by decide) (by decide) o)

theorem EncodeInRow.bxj (o : BxOp) : EncodeInRow.Statement (.bxj o) := fun _ =>
  beq_iff_eq.mpr (BxOp.toWord_mask 0x01200020 0x0FF000F0 (by decide) (by decide) o)

theorem EncodeInRow.blxReg (o : BxOp) : EncodeInRow.Statement (.blxReg o) := fun _ =>
  beq_iff_eq.mpr (BxOp.toWord_mask 0x01200030 0x0FF000F0 (by decide) (by decide) o)

theorem EncodeInRow.qadd (o : QaddOp) : EncodeInRow.Statement (.qadd o) := fun _ =>
  beq_iff_eq.mpr (QaddOp.toWord_mask 0x01000050 0x0F9000F0 (by decide) (by decide) o)

theorem EncodeInRow.eret (w : Word) : EncodeInRow.Statement (.eret w) := raw_hits (by decide)

theorem EncodeInRow.bkpt (o : TrapOp) : EncodeInRow.Statement (.bkpt o) := fun _ =>
  beq_iff_eq.mpr (TrapOp.toWord_mask 0x01200070 0x0FF000F0 (by decide) (by decide) o)

theorem EncodeInRow.hvc (w : Word) : EncodeInRow.Statement (.hvc w) := raw_hits (by decide)

theorem EncodeInRow.smc (o : SmcOp) : EncodeInRow.Statement (.smc o) := fun _ =>
  beq_iff_eq.mpr (SmcOp.toWord_mask 0x01600070 0x0FF000F0 (by decide) (by decide) o)

theorem EncodeInRow.halfwordMultiply (w : Word) : EncodeInRow.Statement (.halfwordMultiply w) := raw_hits (by decide)

theorem EncodeInRow.undefMisc (w : Word) : EncodeInRow.Statement (.undefMisc w) := raw_hits (by decide)

theorem EncodeInRow.mul (o : MulOp) : EncodeInRow.Statement (.mul o) := fun _ =>
  beq_iff_eq.mpr (MulOp.toWord_mask 0x00000090 0x0FE000F0 (by decide) (by decide) o)

theorem EncodeInRow.mla (o : MlaOp) : EncodeInRow.Statement (.mla o) := fun _ =>
  beq_iff_eq.mpr (MlaOp.toWord_mask 0x00200090 0x0FE000F0 (by decide) (by decide) o)

theorem EncodeInRow.umaal (w : Word) : EncodeInRow.Statement (.umaal w) := raw_hits (by decide)

theorem EncodeInRow.undefMultiply0101 (w : Word) : EncodeInRow.Statement (.undefMultiply0101 w) := raw_hits (by decide)

theorem EncodeInRow.mls (o : MlsOp) : EncodeInRow.Statement (.mls o) := fun _ =>
  beq_iff_eq.mpr (MlsOp.toWord_mask 0x00600090 0x0FF000F0 (by decide) (by decide) o)

theorem EncodeInRow.undefMultiply0111 (w : Word) : EncodeInRow.Statement (.undefMultiply0111 w) := raw_hits (by decide)

theorem EncodeInRow.umull (o : MulLongOp) : EncodeInRow.Statement (.umull o) := fun _ =>
  beq_iff_eq.mpr (MulLongOp.toWord_mask 0x00800090 0x0FE000F0 (by decide) (by decide) o)

theorem EncodeInRow.umlal (o : MulLongOp) : EncodeInRow.Statement (.umlal o) := fun _ =>
  beq_iff_eq.mpr (MulLongOp.toWord_mask 0x00A00090 0x0FE000F0 (by decide) (by decide) o)

theorem EncodeInRow.smull (o : MulLongOp) : EncodeInRow.Statement (.smull o) := fun _ =>
  beq_iff_eq.mpr (MulLongOp.toWord_mask 0x00C00090 0x0FE000F0 (by decide) (by decide) o)

theorem EncodeInRow.smlal (o : MulLongOp) : EncodeInRow.Statement (.smlal o) := fun _ =>
  beq_iff_eq.mpr (MulLongOp.toWord_mask 0x00E00090 0x0FE000F0 (by decide) (by decide) o)

theorem EncodeInRow.swp (o : SwpOp) : EncodeInRow.Statement (.swp o) := fun _ =>
  beq_iff_eq.mpr (SwpOp.toWord_mask 0x01000090 0x0FB000F0 (by decide) (by decide) o)

theorem EncodeInRow.strex (o : StrexOp) : EncodeInRow.Statement (.strex o) := fun _ =>
  beq_iff_eq.mpr (StrexOp.toWord_mask 0x01800090 0x0FF000F0 (by decide) (by decide) o)

theorem EncodeInRow.ldrex (o : LdrexOp) : EncodeInRow.Statement (.ldrex o) := fun _ =>
  beq_iff_eq.mpr (LdrexOp.toWord_mask 0x01900090 0x0FF000F0 (by decide) (by decide) o)

theorem EncodeInRow.exclusiveWidths (w : Word) : EncodeInRow.Statement (.exclusiveWidths w) := raw_hits (by decide)

theorem EncodeInRow.undefSync (w : Word) : EncodeInRow.Statement (.undefSync w) := raw_hits (by decide)

theorem EncodeInRow.unpredLdrdStrd (w : Word) : EncodeInRow.Statement (.unpredLdrdStrd w) := raw_hits (by decide)

theorem EncodeInRow.strhtImm (o : ExtraTImm) : EncodeInRow.Statement (.strhtImm o) := fun _ =>
  beq_iff_eq.mpr (ExtraTImm.toWord_mask 0x006000B0 0x0F7000F0 (by decide) (by decide) o)

theorem EncodeInRow.strhtReg (o : ExtraTReg) : EncodeInRow.Statement (.strhtReg o) := fun _ =>
  beq_iff_eq.mpr (ExtraTReg.toWord_mask 0x002000B0 0x0F7000F0 (by decide) (by decide) o)

theorem EncodeInRow.strhImm (o : ExtraImm) : EncodeInRow.Statement (.strhImm o) := fun _ =>
  beq_iff_eq.mpr (ExtraImm.toWord_mask 0x004000B0 0x0E5000F0 (by decide) (by decide) o)

theorem EncodeInRow.strhReg (o : ExtraReg) : EncodeInRow.Statement (.strhReg o) := fun _ =>
  beq_iff_eq.mpr (ExtraReg.toWord_mask 0x000000B0 0x0E5000F0 (by decide) (by decide) o)

theorem EncodeInRow.ldrhtImm (o : ExtraTImm) : EncodeInRow.Statement (.ldrhtImm o) := fun _ =>
  beq_iff_eq.mpr (ExtraTImm.toWord_mask 0x007000B0 0x0F7000F0 (by decide) (by decide) o)

theorem EncodeInRow.ldrhtReg (o : ExtraTReg) : EncodeInRow.Statement (.ldrhtReg o) := fun _ =>
  beq_iff_eq.mpr (ExtraTReg.toWord_mask 0x003000B0 0x0F7000F0 (by decide) (by decide) o)

theorem EncodeInRow.ldrhImm (o : ExtraImm) : EncodeInRow.Statement (.ldrhImm o) := fun _ =>
  beq_iff_eq.mpr (ExtraImm.toWord_mask 0x005000B0 0x0E5000F0 (by decide) (by decide) o)

theorem EncodeInRow.ldrhReg (o : ExtraReg) : EncodeInRow.Statement (.ldrhReg o) := fun _ =>
  beq_iff_eq.mpr (ExtraReg.toWord_mask 0x001000B0 0x0E5000F0 (by decide) (by decide) o)

theorem EncodeInRow.ldrdImm (o : ExtraImm) : EncodeInRow.Statement (.ldrdImm o) := fun _ =>
  beq_iff_eq.mpr (ExtraImm.toWord_mask 0x004000D0 0x0E5000F0 (by decide) (by decide) o)

theorem EncodeInRow.ldrdReg (o : ExtraReg) : EncodeInRow.Statement (.ldrdReg o) := fun _ =>
  beq_iff_eq.mpr (ExtraReg.toWord_mask 0x000000D0 0x0E5000F0 (by decide) (by decide) o)

theorem EncodeInRow.ldrsbtImm (o : ExtraTImm) : EncodeInRow.Statement (.ldrsbtImm o) := fun _ =>
  beq_iff_eq.mpr (ExtraTImm.toWord_mask 0x007000D0 0x0F7000F0 (by decide) (by decide) o)

theorem EncodeInRow.ldrsbtReg (o : ExtraTReg) : EncodeInRow.Statement (.ldrsbtReg o) := fun _ =>
  beq_iff_eq.mpr (ExtraTReg.toWord_mask 0x003000D0 0x0F7000F0 (by decide) (by decide) o)

theorem EncodeInRow.ldrsbImm (o : ExtraImm) : EncodeInRow.Statement (.ldrsbImm o) := fun _ =>
  beq_iff_eq.mpr (ExtraImm.toWord_mask 0x005000D0 0x0E5000F0 (by decide) (by decide) o)

theorem EncodeInRow.ldrsbReg (o : ExtraReg) : EncodeInRow.Statement (.ldrsbReg o) := fun _ =>
  beq_iff_eq.mpr (ExtraReg.toWord_mask 0x001000D0 0x0E5000F0 (by decide) (by decide) o)

theorem EncodeInRow.strdImm (o : ExtraImm) : EncodeInRow.Statement (.strdImm o) := fun _ =>
  beq_iff_eq.mpr (ExtraImm.toWord_mask 0x004000F0 0x0E5000F0 (by decide) (by decide) o)

theorem EncodeInRow.strdReg (o : ExtraReg) : EncodeInRow.Statement (.strdReg o) := fun _ =>
  beq_iff_eq.mpr (ExtraReg.toWord_mask 0x000000F0 0x0E5000F0 (by decide) (by decide) o)

theorem EncodeInRow.ldrshtImm (o : ExtraTImm) : EncodeInRow.Statement (.ldrshtImm o) := fun _ =>
  beq_iff_eq.mpr (ExtraTImm.toWord_mask 0x007000F0 0x0F7000F0 (by decide) (by decide) o)

theorem EncodeInRow.ldrshtReg (o : ExtraTReg) : EncodeInRow.Statement (.ldrshtReg o) := fun _ =>
  beq_iff_eq.mpr (ExtraTReg.toWord_mask 0x003000F0 0x0F7000F0 (by decide) (by decide) o)

theorem EncodeInRow.ldrshImm (o : ExtraImm) : EncodeInRow.Statement (.ldrshImm o) := fun _ =>
  beq_iff_eq.mpr (ExtraImm.toWord_mask 0x005000F0 0x0E5000F0 (by decide) (by decide) o)

theorem EncodeInRow.ldrshReg (o : ExtraReg) : EncodeInRow.Statement (.ldrshReg o) := fun _ =>
  beq_iff_eq.mpr (ExtraReg.toWord_mask 0x001000F0 0x0E5000F0 (by decide) (by decide) o)

theorem EncodeInRow.movw (o : MovwOp) : EncodeInRow.Statement (.movw o) := fun _ =>
  beq_iff_eq.mpr (MovwOp.toWord_mask 0x03000000 0x0FF00000 (by decide) (by decide) o)

theorem EncodeInRow.movt (o : MovwOp) : EncodeInRow.Statement (.movt o) := fun _ =>
  beq_iff_eq.mpr (MovwOp.toWord_mask 0x03400000 0x0FF00000 (by decide) (by decide) o)

theorem EncodeInRow.nop (o : HintOp) : EncodeInRow.Statement (.nop o) := fun _ =>
  beq_iff_eq.mpr (HintOp.toWord_mask 0x03200000 0x0FFF00FF (by decide) (by decide) o)

theorem EncodeInRow.yield (o : HintOp) : EncodeInRow.Statement (.yield o) := fun _ =>
  beq_iff_eq.mpr (HintOp.toWord_mask 0x03200001 0x0FFF00FF (by decide) (by decide) o)

theorem EncodeInRow.wfe (o : HintOp) : EncodeInRow.Statement (.wfe o) := fun _ =>
  beq_iff_eq.mpr (HintOp.toWord_mask 0x03200002 0x0FFF00FF (by decide) (by decide) o)

theorem EncodeInRow.wfi (o : HintOp) : EncodeInRow.Statement (.wfi o) := fun _ =>
  beq_iff_eq.mpr (HintOp.toWord_mask 0x03200003 0x0FFF00FF (by decide) (by decide) o)

theorem EncodeInRow.sev (o : HintOp) : EncodeInRow.Statement (.sev o) := fun _ =>
  beq_iff_eq.mpr (HintOp.toWord_mask 0x03200004 0x0FFF00FF (by decide) (by decide) o)

theorem EncodeInRow.dbg (o : DbgOp) : EncodeInRow.Statement (.dbg o) := fun _ =>
  beq_iff_eq.mpr (DbgOp.toWord_mask 0x032000F0 0x0FFF00F0 (by decide) (by decide) o)

theorem EncodeInRow.hintUnallocated (o : HintUnallocOp) : EncodeInRow.Statement (.hintUnallocated o) := fun _ =>
  beq_iff_eq.mpr (HintUnallocOp.toWord_mask 0x03200000 0x0FFF0000 (by decide) (by decide) o)

theorem EncodeInRow.unpredMsrImm (w : Word) : EncodeInRow.Statement (.unpredMsrImm w) := raw_hits (by decide)

theorem EncodeInRow.msrImm (o : MsrImmOp) : EncodeInRow.Statement (.msrImm o) := fun _ =>
  beq_iff_eq.mpr (MsrImmOp.toWord_mask 0x03200000 0x0FB00000 (by decide) (by decide) o)

theorem EncodeInRow.andImm (o : DpImm) : EncodeInRow.Statement (.andImm o) := fun _ =>
  beq_iff_eq.mpr (DpImm.toWord_mask 0x02000000 0x0FE00000 (by decide) (by decide) o)

theorem EncodeInRow.andReg (o : DpReg) : EncodeInRow.Statement (.andReg o) := fun _ =>
  beq_iff_eq.mpr (DpReg.toWord_mask 0x00000000 0x0FE00010 (by decide) (by decide) o)

theorem EncodeInRow.andRsr (o : DpRsr) : EncodeInRow.Statement (.andRsr o) := fun _ =>
  beq_iff_eq.mpr (DpRsr.toWord_mask 0x00000010 0x0FE00090 (by decide) (by decide) o)

theorem EncodeInRow.eorImm (o : DpImm) : EncodeInRow.Statement (.eorImm o) := fun _ =>
  beq_iff_eq.mpr (DpImm.toWord_mask 0x02200000 0x0FE00000 (by decide) (by decide) o)

theorem EncodeInRow.eorReg (o : DpReg) : EncodeInRow.Statement (.eorReg o) := fun _ =>
  beq_iff_eq.mpr (DpReg.toWord_mask 0x00200000 0x0FE00010 (by decide) (by decide) o)

theorem EncodeInRow.eorRsr (o : DpRsr) : EncodeInRow.Statement (.eorRsr o) := fun _ =>
  beq_iff_eq.mpr (DpRsr.toWord_mask 0x00200010 0x0FE00090 (by decide) (by decide) o)

theorem EncodeInRow.subImm (o : DpImm) : EncodeInRow.Statement (.subImm o) := fun _ =>
  beq_iff_eq.mpr (DpImm.toWord_mask 0x02400000 0x0FE00000 (by decide) (by decide) o)

theorem EncodeInRow.subReg (o : DpReg) : EncodeInRow.Statement (.subReg o) := fun _ =>
  beq_iff_eq.mpr (DpReg.toWord_mask 0x00400000 0x0FE00010 (by decide) (by decide) o)

theorem EncodeInRow.subRsr (o : DpRsr) : EncodeInRow.Statement (.subRsr o) := fun _ =>
  beq_iff_eq.mpr (DpRsr.toWord_mask 0x00400010 0x0FE00090 (by decide) (by decide) o)

theorem EncodeInRow.rsbImm (o : DpImm) : EncodeInRow.Statement (.rsbImm o) := fun _ =>
  beq_iff_eq.mpr (DpImm.toWord_mask 0x02600000 0x0FE00000 (by decide) (by decide) o)

theorem EncodeInRow.rsbReg (o : DpReg) : EncodeInRow.Statement (.rsbReg o) := fun _ =>
  beq_iff_eq.mpr (DpReg.toWord_mask 0x00600000 0x0FE00010 (by decide) (by decide) o)

theorem EncodeInRow.rsbRsr (o : DpRsr) : EncodeInRow.Statement (.rsbRsr o) := fun _ =>
  beq_iff_eq.mpr (DpRsr.toWord_mask 0x00600010 0x0FE00090 (by decide) (by decide) o)

theorem EncodeInRow.addImm (o : DpImm) : EncodeInRow.Statement (.addImm o) := fun _ =>
  beq_iff_eq.mpr (DpImm.toWord_mask 0x02800000 0x0FE00000 (by decide) (by decide) o)

theorem EncodeInRow.addReg (o : DpReg) : EncodeInRow.Statement (.addReg o) := fun _ =>
  beq_iff_eq.mpr (DpReg.toWord_mask 0x00800000 0x0FE00010 (by decide) (by decide) o)

theorem EncodeInRow.addRsr (o : DpRsr) : EncodeInRow.Statement (.addRsr o) := fun _ =>
  beq_iff_eq.mpr (DpRsr.toWord_mask 0x00800010 0x0FE00090 (by decide) (by decide) o)

theorem EncodeInRow.adcImm (o : DpImm) : EncodeInRow.Statement (.adcImm o) := fun _ =>
  beq_iff_eq.mpr (DpImm.toWord_mask 0x02A00000 0x0FE00000 (by decide) (by decide) o)

theorem EncodeInRow.adcReg (o : DpReg) : EncodeInRow.Statement (.adcReg o) := fun _ =>
  beq_iff_eq.mpr (DpReg.toWord_mask 0x00A00000 0x0FE00010 (by decide) (by decide) o)

theorem EncodeInRow.adcRsr (o : DpRsr) : EncodeInRow.Statement (.adcRsr o) := fun _ =>
  beq_iff_eq.mpr (DpRsr.toWord_mask 0x00A00010 0x0FE00090 (by decide) (by decide) o)

theorem EncodeInRow.sbcImm (o : DpImm) : EncodeInRow.Statement (.sbcImm o) := fun _ =>
  beq_iff_eq.mpr (DpImm.toWord_mask 0x02C00000 0x0FE00000 (by decide) (by decide) o)

theorem EncodeInRow.sbcReg (o : DpReg) : EncodeInRow.Statement (.sbcReg o) := fun _ =>
  beq_iff_eq.mpr (DpReg.toWord_mask 0x00C00000 0x0FE00010 (by decide) (by decide) o)

theorem EncodeInRow.sbcRsr (o : DpRsr) : EncodeInRow.Statement (.sbcRsr o) := fun _ =>
  beq_iff_eq.mpr (DpRsr.toWord_mask 0x00C00010 0x0FE00090 (by decide) (by decide) o)

theorem EncodeInRow.rscImm (o : DpImm) : EncodeInRow.Statement (.rscImm o) := fun _ =>
  beq_iff_eq.mpr (DpImm.toWord_mask 0x02E00000 0x0FE00000 (by decide) (by decide) o)

theorem EncodeInRow.rscReg (o : DpReg) : EncodeInRow.Statement (.rscReg o) := fun _ =>
  beq_iff_eq.mpr (DpReg.toWord_mask 0x00E00000 0x0FE00010 (by decide) (by decide) o)

theorem EncodeInRow.rscRsr (o : DpRsr) : EncodeInRow.Statement (.rscRsr o) := fun _ =>
  beq_iff_eq.mpr (DpRsr.toWord_mask 0x00E00010 0x0FE00090 (by decide) (by decide) o)

theorem EncodeInRow.tstImm (o : CmpImm) : EncodeInRow.Statement (.tstImm o) := fun _ =>
  beq_iff_eq.mpr (CmpImm.toWord_mask 0x03100000 0x0FF00000 (by decide) (by decide) o)

theorem EncodeInRow.tstReg (o : CmpReg) : EncodeInRow.Statement (.tstReg o) := fun _ =>
  beq_iff_eq.mpr (CmpReg.toWord_mask 0x01100000 0x0FF00010 (by decide) (by decide) o)

theorem EncodeInRow.tstRsr (o : CmpRsr) : EncodeInRow.Statement (.tstRsr o) := fun _ =>
  beq_iff_eq.mpr (CmpRsr.toWord_mask 0x01100010 0x0FF00090 (by decide) (by decide) o)

theorem EncodeInRow.teqImm (o : CmpImm) : EncodeInRow.Statement (.teqImm o) := fun _ =>
  beq_iff_eq.mpr (CmpImm.toWord_mask 0x03300000 0x0FF00000 (by decide) (by decide) o)

theorem EncodeInRow.teqReg (o : CmpReg) : EncodeInRow.Statement (.teqReg o) := fun _ =>
  beq_iff_eq.mpr (CmpReg.toWord_mask 0x01300000 0x0FF00010 (by decide) (by decide) o)

theorem EncodeInRow.teqRsr (o : CmpRsr) : EncodeInRow.Statement (.teqRsr o) := fun _ =>
  beq_iff_eq.mpr (CmpRsr.toWord_mask 0x01300010 0x0FF00090 (by decide) (by decide) o)

theorem EncodeInRow.cmpImm (o : CmpImm) : EncodeInRow.Statement (.cmpImm o) := fun _ =>
  beq_iff_eq.mpr (CmpImm.toWord_mask 0x03500000 0x0FF00000 (by decide) (by decide) o)

theorem EncodeInRow.cmpReg (o : CmpReg) : EncodeInRow.Statement (.cmpReg o) := fun _ =>
  beq_iff_eq.mpr (CmpReg.toWord_mask 0x01500000 0x0FF00010 (by decide) (by decide) o)

theorem EncodeInRow.cmpRsr (o : CmpRsr) : EncodeInRow.Statement (.cmpRsr o) := fun _ =>
  beq_iff_eq.mpr (CmpRsr.toWord_mask 0x01500010 0x0FF00090 (by decide) (by decide) o)

theorem EncodeInRow.cmnImm (o : CmpImm) : EncodeInRow.Statement (.cmnImm o) := fun _ =>
  beq_iff_eq.mpr (CmpImm.toWord_mask 0x03700000 0x0FF00000 (by decide) (by decide) o)

theorem EncodeInRow.cmnReg (o : CmpReg) : EncodeInRow.Statement (.cmnReg o) := fun _ =>
  beq_iff_eq.mpr (CmpReg.toWord_mask 0x01700000 0x0FF00010 (by decide) (by decide) o)

theorem EncodeInRow.cmnRsr (o : CmpRsr) : EncodeInRow.Statement (.cmnRsr o) := fun _ =>
  beq_iff_eq.mpr (CmpRsr.toWord_mask 0x01700010 0x0FF00090 (by decide) (by decide) o)

theorem EncodeInRow.orrImm (o : DpImm) : EncodeInRow.Statement (.orrImm o) := fun _ =>
  beq_iff_eq.mpr (DpImm.toWord_mask 0x03800000 0x0FE00000 (by decide) (by decide) o)

theorem EncodeInRow.orrReg (o : DpReg) : EncodeInRow.Statement (.orrReg o) := fun _ =>
  beq_iff_eq.mpr (DpReg.toWord_mask 0x01800000 0x0FE00010 (by decide) (by decide) o)

theorem EncodeInRow.orrRsr (o : DpRsr) : EncodeInRow.Statement (.orrRsr o) := fun _ =>
  beq_iff_eq.mpr (DpRsr.toWord_mask 0x01800010 0x0FE00090 (by decide) (by decide) o)

theorem EncodeInRow.movImm (o : MovImm) : EncodeInRow.Statement (.movImm o) := fun _ =>
  beq_iff_eq.mpr (MovImm.toWord_mask 0x03A00000 0x0FE00000 (by decide) (by decide) o)

theorem EncodeInRow.movReg (o : MovReg) : EncodeInRow.Statement (.movReg o) := fun _ =>
  beq_iff_eq.mpr (MovReg.toWord_mask 0x01A00000 0x0FE00FF0 (by decide) (by decide) o)

theorem EncodeInRow.rrx (o : MovReg) : EncodeInRow.Statement (.rrx o) := fun _ =>
  beq_iff_eq.mpr (MovReg.toWord_mask 0x01A00060 0x0FE00FF0 (by decide) (by decide) o)

theorem EncodeInRow.lslImm (o : ShiftImm) : EncodeInRow.Statement (.lslImm o) := fun _ =>
  beq_iff_eq.mpr (ShiftImm.toWord_mask 0x01A00000 0x0FE00070 (by decide) (by decide) o)

theorem EncodeInRow.lsrImm (o : ShiftImm) : EncodeInRow.Statement (.lsrImm o) := fun _ =>
  beq_iff_eq.mpr (ShiftImm.toWord_mask 0x01A00020 0x0FE00070 (by decide) (by decide) o)

theorem EncodeInRow.asrImm (o : ShiftImm) : EncodeInRow.Statement (.asrImm o) := fun _ =>
  beq_iff_eq.mpr (ShiftImm.toWord_mask 0x01A00040 0x0FE00070 (by decide) (by decide) o)

theorem EncodeInRow.rorImm (o : ShiftImm) : EncodeInRow.Statement (.rorImm o) := fun _ =>
  beq_iff_eq.mpr (ShiftImm.toWord_mask 0x01A00060 0x0FE00070 (by decide) (by decide) o)

theorem EncodeInRow.lslReg (o : ShiftReg) : EncodeInRow.Statement (.lslReg o) := fun _ =>
  beq_iff_eq.mpr (ShiftReg.toWord_mask 0x01A00010 0x0FE000F0 (by decide) (by decide) o)

theorem EncodeInRow.lsrReg (o : ShiftReg) : EncodeInRow.Statement (.lsrReg o) := fun _ =>
  beq_iff_eq.mpr (ShiftReg.toWord_mask 0x01A00030 0x0FE000F0 (by decide) (by decide) o)

theorem EncodeInRow.asrReg (o : ShiftReg) : EncodeInRow.Statement (.asrReg o) := fun _ =>
  beq_iff_eq.mpr (ShiftReg.toWord_mask 0x01A00050 0x0FE000F0 (by decide) (by decide) o)

theorem EncodeInRow.rorReg (o : ShiftReg) : EncodeInRow.Statement (.rorReg o) := fun _ =>
  beq_iff_eq.mpr (ShiftReg.toWord_mask 0x01A00070 0x0FE000F0 (by decide) (by decide) o)

theorem EncodeInRow.bicImm (o : DpImm) : EncodeInRow.Statement (.bicImm o) := fun _ =>
  beq_iff_eq.mpr (DpImm.toWord_mask 0x03C00000 0x0FE00000 (by decide) (by decide) o)

theorem EncodeInRow.bicReg (o : DpReg) : EncodeInRow.Statement (.bicReg o) := fun _ =>
  beq_iff_eq.mpr (DpReg.toWord_mask 0x01C00000 0x0FE00010 (by decide) (by decide) o)

theorem EncodeInRow.bicRsr (o : DpRsr) : EncodeInRow.Statement (.bicRsr o) := fun _ =>
  beq_iff_eq.mpr (DpRsr.toWord_mask 0x01C00010 0x0FE00090 (by decide) (by decide) o)

theorem EncodeInRow.mvnImm (o : MovImm) : EncodeInRow.Statement (.mvnImm o) := fun _ =>
  beq_iff_eq.mpr (MovImm.toWord_mask 0x03E00000 0x0FE00000 (by decide) (by decide) o)

theorem EncodeInRow.mvnReg (o : MvnReg) : EncodeInRow.Statement (.mvnReg o) := fun _ =>
  beq_iff_eq.mpr (MvnReg.toWord_mask 0x01E00000 0x0FE00010 (by decide) (by decide) o)

theorem EncodeInRow.mvnRsr (o : MvnRsr) : EncodeInRow.Statement (.mvnRsr o) := fun _ =>
  beq_iff_eq.mpr (MvnRsr.toWord_mask 0x01E00010 0x0FE00090 (by decide) (by decide) o)

theorem EncodeInRow.strtImm (o : LsTImm) : EncodeInRow.Statement (.strtImm o) := fun _ =>
  beq_iff_eq.mpr (LsTImm.toWord_mask 0x04200000 0x0F700000 (by decide) (by decide) o)

theorem EncodeInRow.strtReg (o : LsTReg) : EncodeInRow.Statement (.strtReg o) := fun _ =>
  beq_iff_eq.mpr (LsTReg.toWord_mask 0x06200000 0x0F700010 (by decide) (by decide) o)

theorem EncodeInRow.strImm (o : LsImm) : EncodeInRow.Statement (.strImm o) := fun _ =>
  beq_iff_eq.mpr (LsImm.toWord_mask 0x04000000 0x0E500000 (by decide) (by decide) o)

theorem EncodeInRow.strReg (o : LsReg) : EncodeInRow.Statement (.strReg o) := fun _ =>
  beq_iff_eq.mpr (LsReg.toWord_mask 0x06000000 0x0E500010 (by decide) (by decide) o)

theorem EncodeInRow.ldrtImm (o : LsTImm) : EncodeInRow.Statement (.ldrtImm o) := fun _ =>
  beq_iff_eq.mpr (LsTImm.toWord_mask 0x04300000 0x0F700000 (by decide) (by decide) o)

theorem EncodeInRow.ldrtReg (o : LsTReg) : EncodeInRow.Statement (.ldrtReg o) := fun _ =>
  beq_iff_eq.mpr (LsTReg.toWord_mask 0x06300000 0x0F700010 (by decide) (by decide) o)

theorem EncodeInRow.ldrImm (o : LsImm) : EncodeInRow.Statement (.ldrImm o) := fun _ =>
  beq_iff_eq.mpr (LsImm.toWord_mask 0x04100000 0x0E500000 (by decide) (by decide) o)

theorem EncodeInRow.ldrReg (o : LsReg) : EncodeInRow.Statement (.ldrReg o) := fun _ =>
  beq_iff_eq.mpr (LsReg.toWord_mask 0x06100000 0x0E500010 (by decide) (by decide) o)

theorem EncodeInRow.strbtImm (o : LsTImm) : EncodeInRow.Statement (.strbtImm o) := fun _ =>
  beq_iff_eq.mpr (LsTImm.toWord_mask 0x04600000 0x0F700000 (by decide) (by decide) o)

theorem EncodeInRow.strbtReg (o : LsTReg) : EncodeInRow.Statement (.strbtReg o) := fun _ =>
  beq_iff_eq.mpr (LsTReg.toWord_mask 0x06600000 0x0F700010 (by decide) (by decide) o)

theorem EncodeInRow.strbImm (o : LsImm) : EncodeInRow.Statement (.strbImm o) := fun _ =>
  beq_iff_eq.mpr (LsImm.toWord_mask 0x04400000 0x0E500000 (by decide) (by decide) o)

theorem EncodeInRow.strbReg (o : LsReg) : EncodeInRow.Statement (.strbReg o) := fun _ =>
  beq_iff_eq.mpr (LsReg.toWord_mask 0x06400000 0x0E500010 (by decide) (by decide) o)

theorem EncodeInRow.ldrbtImm (o : LsTImm) : EncodeInRow.Statement (.ldrbtImm o) := fun _ =>
  beq_iff_eq.mpr (LsTImm.toWord_mask 0x04700000 0x0F700000 (by decide) (by decide) o)

theorem EncodeInRow.ldrbtReg (o : LsTReg) : EncodeInRow.Statement (.ldrbtReg o) := fun _ =>
  beq_iff_eq.mpr (LsTReg.toWord_mask 0x06700000 0x0F700010 (by decide) (by decide) o)

theorem EncodeInRow.ldrbImm (o : LsImm) : EncodeInRow.Statement (.ldrbImm o) := fun _ =>
  beq_iff_eq.mpr (LsImm.toWord_mask 0x04500000 0x0E500000 (by decide) (by decide) o)

theorem EncodeInRow.ldrbReg (o : LsReg) : EncodeInRow.Statement (.ldrbReg o) := fun _ =>
  beq_iff_eq.mpr (LsReg.toWord_mask 0x06500000 0x0E500010 (by decide) (by decide) o)

theorem EncodeInRow.parallelAddSub (w : Word) : EncodeInRow.Statement (.parallelAddSub w) := raw_hits (by decide)

theorem EncodeInRow.pkh (w : Word) : EncodeInRow.Statement (.pkh w) := raw_hits (by decide)

theorem EncodeInRow.sxtb16 (o : ExtendOp) : EncodeInRow.Statement (.sxtb16 o) := fun _ =>
  beq_iff_eq.mpr (ExtendOp.toWord_mask 0x068F0070 0x0FFF00F0 (by decide) (by decide) o)

theorem EncodeInRow.sxtab16 (o : ExtendAddOp) : EncodeInRow.Statement (.sxtab16 o) := fun _ =>
  beq_iff_eq.mpr (ExtendAddOp.toWord_mask 0x06800070 0x0FF000F0 (by decide) (by decide) o)

theorem EncodeInRow.sxtb (o : ExtendOp) : EncodeInRow.Statement (.sxtb o) := fun _ =>
  beq_iff_eq.mpr (ExtendOp.toWord_mask 0x06AF0070 0x0FFF00F0 (by decide) (by decide) o)

theorem EncodeInRow.sxtab (o : ExtendAddOp) : EncodeInRow.Statement (.sxtab o) := fun _ =>
  beq_iff_eq.mpr (ExtendAddOp.toWord_mask 0x06A00070 0x0FF000F0 (by decide) (by decide) o)

theorem EncodeInRow.sxth (o : ExtendOp) : EncodeInRow.Statement (.sxth o) := fun _ =>
  beq_iff_eq.mpr (ExtendOp.toWord_mask 0x06BF0070 0x0FFF00F0 (by decide) (by decide) o)

theorem EncodeInRow.sxtah (o : ExtendAddOp) : EncodeInRow.Statement (.sxtah o) := fun _ =>
  beq_iff_eq.mpr (ExtendAddOp.toWord_mask 0x06B00070 0x0FF000F0 (by decide) (by decide) o)

theorem EncodeInRow.uxtb16 (o : ExtendOp) : EncodeInRow.Statement (.uxtb16 o) := fun _ =>
  beq_iff_eq.mpr (ExtendOp.toWord_mask 0x06CF0070 0x0FFF00F0 (by decide) (by decide) o)

theorem EncodeInRow.uxtab16 (o : ExtendAddOp) : EncodeInRow.Statement (.uxtab16 o) := fun _ =>
  beq_iff_eq.mpr (ExtendAddOp.toWord_mask 0x06C00070 0x0FF000F0 (by decide) (by decide) o)

theorem EncodeInRow.uxtb (o : ExtendOp) : EncodeInRow.Statement (.uxtb o) := fun _ =>
  beq_iff_eq.mpr (ExtendOp.toWord_mask 0x06EF0070 0x0FFF00F0 (by decide) (by decide) o)

theorem EncodeInRow.uxtab (o : ExtendAddOp) : EncodeInRow.Statement (.uxtab o) := fun _ =>
  beq_iff_eq.mpr (ExtendAddOp.toWord_mask 0x06E00070 0x0FF000F0 (by decide) (by decide) o)

theorem EncodeInRow.uxth (o : ExtendOp) : EncodeInRow.Statement (.uxth o) := fun _ =>
  beq_iff_eq.mpr (ExtendOp.toWord_mask 0x06FF0070 0x0FFF00F0 (by decide) (by decide) o)

theorem EncodeInRow.uxtah (o : ExtendAddOp) : EncodeInRow.Statement (.uxtah o) := fun _ =>
  beq_iff_eq.mpr (ExtendAddOp.toWord_mask 0x06F00070 0x0FF000F0 (by decide) (by decide) o)

theorem EncodeInRow.sel (w : Word) : EncodeInRow.Statement (.sel w) := raw_hits (by decide)

theorem EncodeInRow.ssat16 (w : Word) : EncodeInRow.Statement (.ssat16 w) := raw_hits (by decide)

theorem EncodeInRow.ssat (w : Word) : EncodeInRow.Statement (.ssat w) := raw_hits (by decide)

theorem EncodeInRow.rev (o : UnaryOp) : EncodeInRow.Statement (.rev o) := fun _ =>
  beq_iff_eq.mpr (UnaryOp.toWord_mask 0x06B00030 0x0FF000F0 (by decide) (by decide) o)

theorem EncodeInRow.rev16 (o : UnaryOp) : EncodeInRow.Statement (.rev16 o) := fun _ =>
  beq_iff_eq.mpr (UnaryOp.toWord_mask 0x06B000B0 0x0FF000F0 (by decide) (by decide) o)

theorem EncodeInRow.usat16 (w : Word) : EncodeInRow.Statement (.usat16 w) := raw_hits (by decide)

theorem EncodeInRow.usat (w : Word) : EncodeInRow.Statement (.usat w) := raw_hits (by decide)

theorem EncodeInRow.rbit (w : Word) : EncodeInRow.Statement (.rbit w) := raw_hits (by decide)

theorem EncodeInRow.revsh (o : UnaryOp) : EncodeInRow.Statement (.revsh o) := fun _ =>
  beq_iff_eq.mpr (UnaryOp.toWord_mask 0x06F000B0 0x0FF000F0 (by decide) (by decide) o)

theorem EncodeInRow.signedMultiply (w : Word) : EncodeInRow.Statement (.signedMultiply w) := raw_hits (by decide)

theorem EncodeInRow.usad8 (w : Word) : EncodeInRow.Statement (.usad8 w) := raw_hits (by decide)

theorem EncodeInRow.sbfx (o : BfxOp) : EncodeInRow.Statement (.sbfx o) := fun _ =>
  beq_iff_eq.mpr (BfxOp.toWord_mask 0x07A00050 0x0FE00070 (by decide) (by decide) o)

theorem EncodeInRow.bfc (o : BfcOp) : EncodeInRow.Statement (.bfc o) := fun _ =>
  beq_iff_eq.mpr (BfcOp.toWord_mask 0x07C0001F 0x0FE0007F (by decide) (by decide) o)

theorem EncodeInRow.bfi (o : BfiOp) : EncodeInRow.Statement (.bfi o) := fun _ =>
  beq_iff_eq.mpr (BfiOp.toWord_mask 0x07C00010 0x0FE00070 (by decide) (by decide) o)

theorem EncodeInRow.udf (o : TrapOp) : EncodeInRow.Statement (.udf o) := fun _ =>
  beq_iff_eq.mpr (TrapOp.toWord_mask 0x07F000F0 0x0FF000F0 (by decide) (by decide) o)

theorem EncodeInRow.ubfx (o : BfxOp) : EncodeInRow.Statement (.ubfx o) := fun _ =>
  beq_iff_eq.mpr (BfxOp.toWord_mask 0x07E00050 0x0FE00070 (by decide) (by decide) o)

theorem EncodeInRow.ldmExcReturn (o : LdmExcOp) : EncodeInRow.Statement (.ldmExcReturn o) := fun _ =>
  beq_iff_eq.mpr (LdmExcOp.toWord_mask 0x08508000 0x0E508000 (by decide) (by decide) o)

theorem EncodeInRow.ldmUser (o : LdmUserOp) : EncodeInRow.Statement (.ldmUser o) := fun _ =>
  beq_iff_eq.mpr (LdmUserOp.toWord_mask 0x08500000 0x0E508000 (by decide) (by decide) o)

theorem EncodeInRow.stmUser (o : StmUserOp) : EncodeInRow.Statement (.stmUser o) := fun _ =>
  beq_iff_eq.mpr (StmUserOp.toWord_mask 0x08400000 0x0E500000 (by decide) (by decide) o)

theorem EncodeInRow.stmda (o : BlockOp) : EncodeInRow.Statement (.stmda o) := fun _ =>
  beq_iff_eq.mpr (BlockOp.toWord_mask 0x08000000 0x0FD00000 (by decide) (by decide) o)

theorem EncodeInRow.ldmda (o : BlockOp) : EncodeInRow.Statement (.ldmda o) := fun _ =>
  beq_iff_eq.mpr (BlockOp.toWord_mask 0x08100000 0x0FD00000 (by decide) (by decide) o)

theorem EncodeInRow.stm (o : BlockOp) : EncodeInRow.Statement (.stm o) := fun _ =>
  beq_iff_eq.mpr (BlockOp.toWord_mask 0x08800000 0x0FD00000 (by decide) (by decide) o)

theorem EncodeInRow.ldm (o : BlockOp) : EncodeInRow.Statement (.ldm o) := fun _ =>
  beq_iff_eq.mpr (BlockOp.toWord_mask 0x08900000 0x0FD00000 (by decide) (by decide) o)

theorem EncodeInRow.stmdb (o : BlockOp) : EncodeInRow.Statement (.stmdb o) := fun _ =>
  beq_iff_eq.mpr (BlockOp.toWord_mask 0x09000000 0x0FD00000 (by decide) (by decide) o)

theorem EncodeInRow.ldmdb (o : BlockOp) : EncodeInRow.Statement (.ldmdb o) := fun _ =>
  beq_iff_eq.mpr (BlockOp.toWord_mask 0x09100000 0x0FD00000 (by decide) (by decide) o)

theorem EncodeInRow.stmib (o : BlockOp) : EncodeInRow.Statement (.stmib o) := fun _ =>
  beq_iff_eq.mpr (BlockOp.toWord_mask 0x09800000 0x0FD00000 (by decide) (by decide) o)

theorem EncodeInRow.ldmib (o : BlockOp) : EncodeInRow.Statement (.ldmib o) := fun _ =>
  beq_iff_eq.mpr (BlockOp.toWord_mask 0x09900000 0x0FD00000 (by decide) (by decide) o)

theorem EncodeInRow.b (o : BranchOp) : EncodeInRow.Statement (.b o) := fun _ =>
  beq_iff_eq.mpr (BranchOp.toWord_mask 0x0A000000 0x0F000000 (by decide) (by decide) o)

theorem EncodeInRow.bl (o : BranchOp) : EncodeInRow.Statement (.bl o) := fun _ =>
  beq_iff_eq.mpr (BranchOp.toWord_mask 0x0B000000 0x0F000000 (by decide) (by decide) o)

theorem EncodeInRow.undefCoproc00000 (w : Word) : EncodeInRow.Statement (.undefCoproc00000 w) := raw_hits (by decide)

theorem EncodeInRow.svc (o : BranchOp) : EncodeInRow.Statement (.svc o) := fun _ =>
  beq_iff_eq.mpr (BranchOp.toWord_mask 0x0F000000 0x0F000000 (by decide) (by decide) o)

theorem EncodeInRow.vfpLoadStore (w : Word) : EncodeInRow.Statement (.vfpLoadStore w) := raw_hits (by decide)

theorem EncodeInRow.vfpData (w : Word) : EncodeInRow.Statement (.vfpData w) := raw_hits (by decide)

theorem EncodeInRow.mcrP15 (o : Cp15Op) : EncodeInRow.Statement (.mcrP15 o) := fun _ =>
  beq_iff_eq.mpr (Cp15Op.toWord_mask 0x0E000F10 0x0F100F10 (by decide) (by decide) o)

theorem EncodeInRow.mrcP15 (o : Cp15Op) : EncodeInRow.Statement (.mrcP15 o) := fun _ =>
  beq_iff_eq.mpr (Cp15Op.toWord_mask 0x0E100F10 0x0F100F10 (by decide) (by decide) o)

theorem EncodeInRow.mcrr (o : McrrOp) : EncodeInRow.Statement (.mcrr o) := fun _ =>
  beq_iff_eq.mpr (McrrOp.toWord_mask 0x0C400000 0x0FE00000 (by decide) (by decide) o)

theorem EncodeInRow.stc (o : StcOp) : EncodeInRow.Statement (.stc o) := fun _ =>
  beq_iff_eq.mpr (StcOp.toWord_mask 0x0C000000 0x0E000000 (by decide) (by decide) o)

theorem EncodeInRow.cdp (o : CdpOp) : EncodeInRow.Statement (.cdp o) := fun _ =>
  beq_iff_eq.mpr (CdpOp.toWord_mask 0x0E000000 0x0F000010 (by decide) (by decide) o)

theorem EncodeInRow.mcrOther (o : McrOtherOp) : EncodeInRow.Statement (.mcrOther o) := fun _ =>
  beq_iff_eq.mpr (McrOtherOp.toWord_mask 0x0E000010 0x0F000010 (by decide) (by decide) o)

theorem EncodeInRow.undefAnyOther (w : Word) : EncodeInRow.Statement (.undefAnyOther w) := raw_hits (by decide)

end Sys2Proof.Laws
end

