-- ==== Sys2Proof/Laws/State.lean ====
section
/-! SUPPORT. What each named update of the state does to each field: one lemma for each field and update, so that no later
proof unfolds a record update. -/

namespace Sys2Proof.Machine

@[simp] theorem State.setRmode_pc (s : State) (m : Mode) (i : Reg) (v : Word) : (s.setRmode m i v).pc = s.pc := by
  unfold State.setRmode
  split <;> rfl

@[simp] theorem State.setRmode_cpsr (s : State) (m : Mode) (i : Reg) (v : Word) : (s.setRmode m i v).cpsr = s.cpsr := by
  unfold State.setRmode
  split <;> rfl

@[simp] theorem State.setRmode_spsr (s : State) (m : Mode) (i : Reg) (v : Word) : (s.setRmode m i v).spsr = s.spsr := by
  unfold State.setRmode
  split <;> rfl

@[simp] theorem State.setRmode_cp15 (s : State) (m : Mode) (i : Reg) (v : Word) : (s.setRmode m i v).cp15 = s.cp15 := by
  unfold State.setRmode
  split <;> rfl

@[simp] theorem State.setRmode_pendingBranch (s : State) (m : Mode) (i : Reg) (v : Word) : (s.setRmode m i v).pendingBranch = s.pendingBranch := by
  unfold State.setRmode
  split <;> rfl

@[simp] theorem State.setRmode_irqPending (s : State) (m : Mode) (i : Reg) (v : Word) : (s.setRmode m i v).irqPending = s.irqPending := by
  unfold State.setRmode
  split <;> rfl

@[simp] theorem State.setRmode_fiqPending (s : State) (m : Mode) (i : Reg) (v : Word) : (s.setRmode m i v).fiqPending = s.fiqPending := by
  unfold State.setRmode
  split <;> rfl

@[simp] theorem State.setRmode_monitor (s : State) (m : Mode) (i : Reg) (v : Word) : (s.setRmode m i v).monitor = s.monitor := by
  unfold State.setRmode
  split <;> rfl

@[simp] theorem State.setRmode_waiting (s : State) (m : Mode) (i : Reg) (v : Word) : (s.setRmode m i v).waiting = s.waiting := by
  unfold State.setRmode
  split <;> rfl

@[simp] theorem State.setRmode_halted (s : State) (m : Mode) (i : Reg) (v : Word) : (s.setRmode m i v).halted = s.halted := by
  unfold State.setRmode
  split <;> rfl

@[simp] theorem State.setRmode_mem (s : State) (m : Mode) (i : Reg) (v : Word) : (s.setRmode m i v).mem = s.mem := by
  unfold State.setRmode
  split <;> rfl

@[simp] theorem State.setRmode_params (s : State) (m : Mode) (i : Reg) (v : Word) : (s.setRmode m i v).params = s.params := by
  unfold State.setRmode
  split <;> rfl

@[simp] theorem State.setRmode_draws (s : State) (m : Mode) (i : Reg) (v : Word) : (s.setRmode m i v).draws = s.draws := by
  unfold State.setRmode
  split <;> rfl

@[simp] theorem State.setReg_pc (s : State) (i : Reg) (v : Word) : (s.setReg i v).pc = s.pc := by
  simp [State.setReg]

@[simp] theorem State.setReg_cpsr (s : State) (i : Reg) (v : Word) : (s.setReg i v).cpsr = s.cpsr := by
  simp [State.setReg]

@[simp] theorem State.setReg_spsr (s : State) (i : Reg) (v : Word) : (s.setReg i v).spsr = s.spsr := by
  simp [State.setReg]

@[simp] theorem State.setReg_cp15 (s : State) (i : Reg) (v : Word) : (s.setReg i v).cp15 = s.cp15 := by
  simp [State.setReg]

@[simp] theorem State.setReg_pendingBranch (s : State) (i : Reg) (v : Word) : (s.setReg i v).pendingBranch = s.pendingBranch := by
  simp [State.setReg]

@[simp] theorem State.setReg_irqPending (s : State) (i : Reg) (v : Word) : (s.setReg i v).irqPending = s.irqPending := by
  simp [State.setReg]

@[simp] theorem State.setReg_fiqPending (s : State) (i : Reg) (v : Word) : (s.setReg i v).fiqPending = s.fiqPending := by
  simp [State.setReg]

@[simp] theorem State.setReg_monitor (s : State) (i : Reg) (v : Word) : (s.setReg i v).monitor = s.monitor := by
  simp [State.setReg]

@[simp] theorem State.setReg_waiting (s : State) (i : Reg) (v : Word) : (s.setReg i v).waiting = s.waiting := by
  simp [State.setReg]

@[simp] theorem State.setReg_halted (s : State) (i : Reg) (v : Word) : (s.setReg i v).halted = s.halted := by
  simp [State.setReg]

@[simp] theorem State.setReg_mem (s : State) (i : Reg) (v : Word) : (s.setReg i v).mem = s.mem := by
  simp [State.setReg]

@[simp] theorem State.setReg_params (s : State) (i : Reg) (v : Word) : (s.setReg i v).params = s.params := by
  simp [State.setReg]

@[simp] theorem State.setReg_draws (s : State) (i : Reg) (v : Word) : (s.setReg i v).draws = s.draws := by
  simp [State.setReg]

@[simp] theorem State.branchWritePC_cells (s : State) (a : Word) : (s.branchWritePC a).cells = s.cells := rfl

@[simp] theorem State.branchWritePC_pc (s : State) (a : Word) : (s.branchWritePC a).pc = s.pc := rfl

@[simp] theorem State.branchWritePC_cpsr (s : State) (a : Word) : (s.branchWritePC a).cpsr = s.cpsr := rfl

@[simp] theorem State.branchWritePC_spsr (s : State) (a : Word) : (s.branchWritePC a).spsr = s.spsr := rfl

@[simp] theorem State.branchWritePC_cp15 (s : State) (a : Word) : (s.branchWritePC a).cp15 = s.cp15 := rfl

@[simp] theorem State.branchWritePC_pendingBranch (s : State) (a : Word) : (s.branchWritePC a).pendingBranch = some (a &&& 0xFFFFFFFC) := rfl

@[simp] theorem State.branchWritePC_irqPending (s : State) (a : Word) : (s.branchWritePC a).irqPending = s.irqPending := rfl

@[simp] theorem State.branchWritePC_fiqPending (s : State) (a : Word) : (s.branchWritePC a).fiqPending = s.fiqPending := rfl

@[simp] theorem State.branchWritePC_monitor (s : State) (a : Word) : (s.branchWritePC a).monitor = s.monitor := rfl

@[simp] theorem State.branchWritePC_waiting (s : State) (a : Word) : (s.branchWritePC a).waiting = s.waiting := rfl

@[simp] theorem State.branchWritePC_halted (s : State) (a : Word) : (s.branchWritePC a).halted = s.halted := rfl

@[simp] theorem State.branchWritePC_mem (s : State) (a : Word) : (s.branchWritePC a).mem = s.mem := rfl

@[simp] theorem State.branchWritePC_params (s : State) (a : Word) : (s.branchWritePC a).params = s.params := rfl

@[simp] theorem State.branchWritePC_draws (s : State) (a : Word) : (s.branchWritePC a).draws = s.draws := rfl

@[simp] theorem State.physWrite_cells (s : State) (pa : Word) (w : Width) (v : Word) : (s.physWrite pa w v).cells = s.cells := rfl

@[simp] theorem State.physWrite_pc (s : State) (pa : Word) (w : Width) (v : Word) : (s.physWrite pa w v).pc = s.pc := rfl

@[simp] theorem State.physWrite_cpsr (s : State) (pa : Word) (w : Width) (v : Word) : (s.physWrite pa w v).cpsr = s.cpsr := rfl

@[simp] theorem State.physWrite_spsr (s : State) (pa : Word) (w : Width) (v : Word) : (s.physWrite pa w v).spsr = s.spsr := rfl

@[simp] theorem State.physWrite_cp15 (s : State) (pa : Word) (w : Width) (v : Word) : (s.physWrite pa w v).cp15 = s.cp15 := rfl

@[simp] theorem State.physWrite_pendingBranch (s : State) (pa : Word) (w : Width) (v : Word) : (s.physWrite pa w v).pendingBranch = s.pendingBranch := rfl

@[simp] theorem State.physWrite_irqPending (s : State) (pa : Word) (w : Width) (v : Word) : (s.physWrite pa w v).irqPending = s.irqPending := rfl

@[simp] theorem State.physWrite_fiqPending (s : State) (pa : Word) (w : Width) (v : Word) : (s.physWrite pa w v).fiqPending = s.fiqPending := rfl

@[simp] theorem State.physWrite_monitor (s : State) (pa : Word) (w : Width) (v : Word) : (s.physWrite pa w v).monitor = s.monitor := rfl

@[simp] theorem State.physWrite_waiting (s : State) (pa : Word) (w : Width) (v : Word) : (s.physWrite pa w v).waiting = s.waiting := rfl

@[simp] theorem State.physWrite_halted (s : State) (pa : Word) (w : Width) (v : Word) : (s.physWrite pa w v).halted = s.halted := rfl

@[simp] theorem State.physWrite_mem (s : State) (pa : Word) (w : Width) (v : Word) : (s.physWrite pa w v).mem = s.mem.writeBytes pa w.bytes v := rfl

@[simp] theorem State.physWrite_params (s : State) (pa : Word) (w : Width) (v : Word) : (s.physWrite pa w v).params = s.params := rfl

@[simp] theorem State.physWrite_draws (s : State) (pa : Word) (w : Width) (v : Word) : (s.physWrite pa w v).draws = s.draws := rfl

@[simp] theorem State.setMemoryAbort_cells (s : State) (va : Word) (st : FaultStatus) (wr : Bool) : (s.setMemoryAbort va st wr).cells = s.cells := rfl

@[simp] theorem State.setMemoryAbort_pc (s : State) (va : Word) (st : FaultStatus) (wr : Bool) : (s.setMemoryAbort va st wr).pc = s.pc := rfl

@[simp] theorem State.setMemoryAbort_cpsr (s : State) (va : Word) (st : FaultStatus) (wr : Bool) : (s.setMemoryAbort va st wr).cpsr = s.cpsr := rfl

@[simp] theorem State.setMemoryAbort_spsr (s : State) (va : Word) (st : FaultStatus) (wr : Bool) : (s.setMemoryAbort va st wr).spsr = s.spsr := rfl

@[simp] theorem State.setMemoryAbort_cp15 (s : State) (va : Word) (st : FaultStatus) (wr : Bool) : (s.setMemoryAbort va st wr).cp15 = { s.cp15 with dfar := va, dfsr := faultWord st wr, ifar := va, ifsr := faultWord st wr } := rfl

@[simp] theorem State.setMemoryAbort_pendingBranch (s : State) (va : Word) (st : FaultStatus) (wr : Bool) : (s.setMemoryAbort va st wr).pendingBranch = s.pendingBranch := rfl

@[simp] theorem State.setMemoryAbort_irqPending (s : State) (va : Word) (st : FaultStatus) (wr : Bool) : (s.setMemoryAbort va st wr).irqPending = s.irqPending := rfl

@[simp] theorem State.setMemoryAbort_fiqPending (s : State) (va : Word) (st : FaultStatus) (wr : Bool) : (s.setMemoryAbort va st wr).fiqPending = s.fiqPending := rfl

@[simp] theorem State.setMemoryAbort_monitor (s : State) (va : Word) (st : FaultStatus) (wr : Bool) : (s.setMemoryAbort va st wr).monitor = s.monitor := rfl

@[simp] theorem State.setMemoryAbort_waiting (s : State) (va : Word) (st : FaultStatus) (wr : Bool) : (s.setMemoryAbort va st wr).waiting = s.waiting := rfl

@[simp] theorem State.setMemoryAbort_halted (s : State) (va : Word) (st : FaultStatus) (wr : Bool) : (s.setMemoryAbort va st wr).halted = s.halted := rfl

@[simp] theorem State.setMemoryAbort_mem (s : State) (va : Word) (st : FaultStatus) (wr : Bool) : (s.setMemoryAbort va st wr).mem = s.mem := rfl

@[simp] theorem State.setMemoryAbort_params (s : State) (va : Word) (st : FaultStatus) (wr : Bool) : (s.setMemoryAbort va st wr).params = s.params := rfl

@[simp] theorem State.setMemoryAbort_draws (s : State) (va : Word) (st : FaultStatus) (wr : Bool) : (s.setMemoryAbort va st wr).draws = s.draws := rfl

@[simp] theorem State.commit_cells (s : State) : (s.commit).cells = s.cells := rfl

@[simp] theorem State.commit_pc (s : State) : (s.commit).pc = s.pendingBranch.getD (s.pc + 4) := rfl

@[simp] theorem State.commit_cpsr (s : State) : (s.commit).cpsr = s.cpsr := rfl

@[simp] theorem State.commit_spsr (s : State) : (s.commit).spsr = s.spsr := rfl

@[simp] theorem State.commit_cp15 (s : State) : (s.commit).cp15 = s.cp15 := rfl

@[simp] theorem State.commit_pendingBranch (s : State) : (s.commit).pendingBranch = none := rfl

@[simp] theorem State.commit_irqPending (s : State) : (s.commit).irqPending = s.irqPending := rfl

@[simp] theorem State.commit_fiqPending (s : State) : (s.commit).fiqPending = s.fiqPending := rfl

@[simp] theorem State.commit_monitor (s : State) : (s.commit).monitor = s.monitor := rfl

@[simp] theorem State.commit_waiting (s : State) : (s.commit).waiting = s.waiting := rfl

@[simp] theorem State.commit_halted (s : State) : (s.commit).halted = s.halted := rfl

@[simp] theorem State.commit_mem (s : State) : (s.commit).mem = s.mem := rfl

@[simp] theorem State.commit_params (s : State) : (s.commit).params = s.params := rfl

@[simp] theorem State.commit_draws (s : State) : (s.commit).draws = s.draws := rfl

@[simp] theorem State.advance_cells (s : State) : (s.advance).cells = s.cells := rfl

@[simp] theorem State.advance_pc (s : State) : (s.advance).pc = s.pc + 4 := rfl

@[simp] theorem State.advance_cpsr (s : State) : (s.advance).cpsr = s.cpsr := rfl

@[simp] theorem State.advance_spsr (s : State) : (s.advance).spsr = s.spsr := rfl

@[simp] theorem State.advance_cp15 (s : State) : (s.advance).cp15 = s.cp15 := rfl

@[simp] theorem State.advance_pendingBranch (s : State) : (s.advance).pendingBranch = none := rfl

@[simp] theorem State.advance_irqPending (s : State) : (s.advance).irqPending = s.irqPending := rfl

@[simp] theorem State.advance_fiqPending (s : State) : (s.advance).fiqPending = s.fiqPending := rfl

@[simp] theorem State.advance_monitor (s : State) : (s.advance).monitor = s.monitor := rfl

@[simp] theorem State.advance_waiting (s : State) : (s.advance).waiting = s.waiting := rfl

@[simp] theorem State.advance_halted (s : State) : (s.advance).halted = s.halted := rfl

@[simp] theorem State.advance_mem (s : State) : (s.advance).mem = s.mem := rfl

@[simp] theorem State.advance_params (s : State) : (s.advance).params = s.params := rfl

@[simp] theorem State.advance_draws (s : State) : (s.advance).draws = s.draws := rfl

@[simp] theorem State.enter_cells (s : State) (k : ExcKind) (lr : Word) : (s.enter k lr).cells = (s.setRmode k.mode lrReg lr).cells := rfl

@[simp] theorem State.enter_pc (s : State) (k : ExcKind) (lr : Word) : (s.enter k lr).pc = s.vectorBase + k.offset := rfl

@[simp] theorem State.enter_cpsr (s : State) (k : ExcKind) (lr : Word) : (s.enter k lr).cpsr = entryCpsr k s.cpsr s.cp15.sctlr := rfl

@[simp] theorem State.enter_spsr (s : State) (k : ExcKind) (lr : Word) : (s.enter k lr).spsr = s.spsr.set k.mode s.cpsr := rfl

@[simp] theorem State.enter_cp15 (s : State) (k : ExcKind) (lr : Word) : (s.enter k lr).cp15 = s.cp15 := by
  simp [State.enter]

@[simp] theorem State.enter_pendingBranch (s : State) (k : ExcKind) (lr : Word) : (s.enter k lr).pendingBranch = none := rfl

@[simp] theorem State.enter_irqPending (s : State) (k : ExcKind) (lr : Word) : (s.enter k lr).irqPending = s.irqPending := by
  simp [State.enter]

@[simp] theorem State.enter_fiqPending (s : State) (k : ExcKind) (lr : Word) : (s.enter k lr).fiqPending = s.fiqPending := by
  simp [State.enter]

@[simp] theorem State.enter_monitor (s : State) (k : ExcKind) (lr : Word) : (s.enter k lr).monitor = s.monitor := by
  simp [State.enter]

@[simp] theorem State.enter_waiting (s : State) (k : ExcKind) (lr : Word) : (s.enter k lr).waiting = s.waiting := by
  simp [State.enter]

@[simp] theorem State.enter_halted (s : State) (k : ExcKind) (lr : Word) : (s.enter k lr).halted = s.halted := by
  simp [State.enter]

@[simp] theorem State.enter_mem (s : State) (k : ExcKind) (lr : Word) : (s.enter k lr).mem = s.mem := by
  simp [State.enter]

@[simp] theorem State.enter_params (s : State) (k : ExcKind) (lr : Word) : (s.enter k lr).params = s.params := by
  simp [State.enter]

@[simp] theorem State.enter_draws (s : State) (k : ExcKind) (lr : Word) : (s.enter k lr).draws = s.draws := by
  simp [State.enter]

@[simp] theorem State.writeBack_pc (s : State) (ad : Addressing) (rn : Reg) : (s.writeBack ad rn).pc = s.pc := by
  unfold State.writeBack
  split <;> simp

@[simp] theorem State.writeBack_cpsr (s : State) (ad : Addressing) (rn : Reg) : (s.writeBack ad rn).cpsr = s.cpsr := by
  unfold State.writeBack
  split <;> simp

@[simp] theorem State.writeBack_spsr (s : State) (ad : Addressing) (rn : Reg) : (s.writeBack ad rn).spsr = s.spsr := by
  unfold State.writeBack
  split <;> simp

@[simp] theorem State.writeBack_cp15 (s : State) (ad : Addressing) (rn : Reg) : (s.writeBack ad rn).cp15 = s.cp15 := by
  unfold State.writeBack
  split <;> simp

@[simp] theorem State.writeBack_pendingBranch (s : State) (ad : Addressing) (rn : Reg) : (s.writeBack ad rn).pendingBranch = s.pendingBranch := by
  unfold State.writeBack
  split <;> simp

@[simp] theorem State.writeBack_irqPending (s : State) (ad : Addressing) (rn : Reg) : (s.writeBack ad rn).irqPending = s.irqPending := by
  unfold State.writeBack
  split <;> simp

@[simp] theorem State.writeBack_fiqPending (s : State) (ad : Addressing) (rn : Reg) : (s.writeBack ad rn).fiqPending = s.fiqPending := by
  unfold State.writeBack
  split <;> simp

@[simp] theorem State.writeBack_monitor (s : State) (ad : Addressing) (rn : Reg) : (s.writeBack ad rn).monitor = s.monitor := by
  unfold State.writeBack
  split <;> simp

@[simp] theorem State.writeBack_waiting (s : State) (ad : Addressing) (rn : Reg) : (s.writeBack ad rn).waiting = s.waiting := by
  unfold State.writeBack
  split <;> simp

@[simp] theorem State.writeBack_halted (s : State) (ad : Addressing) (rn : Reg) : (s.writeBack ad rn).halted = s.halted := by
  unfold State.writeBack
  split <;> simp

@[simp] theorem State.writeBack_mem (s : State) (ad : Addressing) (rn : Reg) : (s.writeBack ad rn).mem = s.mem := by
  unfold State.writeBack
  split <;> simp

@[simp] theorem State.writeBack_params (s : State) (ad : Addressing) (rn : Reg) : (s.writeBack ad rn).params = s.params := by
  unfold State.writeBack
  split <;> simp

@[simp] theorem State.writeBack_draws (s : State) (ad : Addressing) (rn : Reg) : (s.writeBack ad rn).draws = s.draws := by
  unfold State.writeBack
  split <;> simp

@[simp] theorem State.drawReg_cells (s : State) (m : Mode) (i : Reg) : (s.drawReg m i).cells = (s.setRmode m i (Config.freeWord s.draws)).cells := rfl

@[simp] theorem State.drawReg_pc (s : State) (m : Mode) (i : Reg) : (s.drawReg m i).pc = s.pc := by
  simp [State.drawReg]

@[simp] theorem State.drawReg_cpsr (s : State) (m : Mode) (i : Reg) : (s.drawReg m i).cpsr = s.cpsr := by
  simp [State.drawReg]

@[simp] theorem State.drawReg_spsr (s : State) (m : Mode) (i : Reg) : (s.drawReg m i).spsr = s.spsr := by
  simp [State.drawReg]

@[simp] theorem State.drawReg_cp15 (s : State) (m : Mode) (i : Reg) : (s.drawReg m i).cp15 = s.cp15 := by
  simp [State.drawReg]

@[simp] theorem State.drawReg_pendingBranch (s : State) (m : Mode) (i : Reg) : (s.drawReg m i).pendingBranch = s.pendingBranch := by
  simp [State.drawReg]

@[simp] theorem State.drawReg_irqPending (s : State) (m : Mode) (i : Reg) : (s.drawReg m i).irqPending = s.irqPending := by
  simp [State.drawReg]

@[simp] theorem State.drawReg_fiqPending (s : State) (m : Mode) (i : Reg) : (s.drawReg m i).fiqPending = s.fiqPending := by
  simp [State.drawReg]

@[simp] theorem State.drawReg_monitor (s : State) (m : Mode) (i : Reg) : (s.drawReg m i).monitor = s.monitor := by
  simp [State.drawReg]

@[simp] theorem State.drawReg_waiting (s : State) (m : Mode) (i : Reg) : (s.drawReg m i).waiting = s.waiting := by
  simp [State.drawReg]

@[simp] theorem State.drawReg_halted (s : State) (m : Mode) (i : Reg) : (s.drawReg m i).halted = s.halted := by
  simp [State.drawReg]

@[simp] theorem State.drawReg_mem (s : State) (m : Mode) (i : Reg) : (s.drawReg m i).mem = s.mem := by
  simp [State.drawReg]

@[simp] theorem State.drawReg_params (s : State) (m : Mode) (i : Reg) : (s.drawReg m i).params = s.params := by
  simp [State.drawReg]

@[simp] theorem State.drawReg_draws (s : State) (m : Mode) (i : Reg) : (s.drawReg m i).draws = s.draws + 1 := rfl

@[simp] theorem State.mulFlags_cells (s : State) (sf : Bool) (n : Bool) (z : Bool) : (s.mulFlags sf n z).cells = s.cells := by
  unfold State.mulFlags
  split <;> rfl

@[simp] theorem State.mulFlags_pc (s : State) (sf : Bool) (n : Bool) (z : Bool) : (s.mulFlags sf n z).pc = s.pc := by
  unfold State.mulFlags
  split <;> rfl

@[simp] theorem State.mulFlags_spsr (s : State) (sf : Bool) (n : Bool) (z : Bool) : (s.mulFlags sf n z).spsr = s.spsr := by
  unfold State.mulFlags
  split <;> rfl

@[simp] theorem State.mulFlags_cp15 (s : State) (sf : Bool) (n : Bool) (z : Bool) : (s.mulFlags sf n z).cp15 = s.cp15 := by
  unfold State.mulFlags
  split <;> rfl

@[simp] theorem State.mulFlags_pendingBranch (s : State) (sf : Bool) (n : Bool) (z : Bool) : (s.mulFlags sf n z).pendingBranch = s.pendingBranch := by
  unfold State.mulFlags
  split <;> rfl

@[simp] theorem State.mulFlags_irqPending (s : State) (sf : Bool) (n : Bool) (z : Bool) : (s.mulFlags sf n z).irqPending = s.irqPending := by
  unfold State.mulFlags
  split <;> rfl

@[simp] theorem State.mulFlags_fiqPending (s : State) (sf : Bool) (n : Bool) (z : Bool) : (s.mulFlags sf n z).fiqPending = s.fiqPending := by
  unfold State.mulFlags
  split <;> rfl

@[simp] theorem State.mulFlags_monitor (s : State) (sf : Bool) (n : Bool) (z : Bool) : (s.mulFlags sf n z).monitor = s.monitor := by
  unfold State.mulFlags
  split <;> rfl

@[simp] theorem State.mulFlags_waiting (s : State) (sf : Bool) (n : Bool) (z : Bool) : (s.mulFlags sf n z).waiting = s.waiting := by
  unfold State.mulFlags
  split <;> rfl

@[simp] theorem State.mulFlags_halted (s : State) (sf : Bool) (n : Bool) (z : Bool) : (s.mulFlags sf n z).halted = s.halted := by
  unfold State.mulFlags
  split <;> rfl

@[simp] theorem State.mulFlags_mem (s : State) (sf : Bool) (n : Bool) (z : Bool) : (s.mulFlags sf n z).mem = s.mem := by
  unfold State.mulFlags
  split <;> rfl

@[simp] theorem State.mulFlags_params (s : State) (sf : Bool) (n : Bool) (z : Bool) : (s.mulFlags sf n z).params = s.params := by
  unfold State.mulFlags
  split <;> rfl

@[simp] theorem State.mulFlags_draws (s : State) (sf : Bool) (n : Bool) (z : Bool) : (s.mulFlags sf n z).draws = s.draws := by
  unfold State.mulFlags
  split <;> rfl

@[simp] theorem State.ready_cells (s : State) : (s.ready).cells = s.cells := rfl

@[simp] theorem State.ready_pc (s : State) : (s.ready).pc = s.pc := rfl

@[simp] theorem State.ready_cpsr (s : State) : (s.ready).cpsr = s.cpsr := rfl

@[simp] theorem State.ready_spsr (s : State) : (s.ready).spsr = s.spsr := rfl

@[simp] theorem State.ready_cp15 (s : State) : (s.ready).cp15 = s.cp15 := rfl

@[simp] theorem State.ready_pendingBranch (s : State) : (s.ready).pendingBranch = s.pendingBranch := rfl

@[simp] theorem State.ready_irqPending (s : State) : (s.ready).irqPending = (s.irqPending && psrI s.cpsr) := rfl

@[simp] theorem State.ready_fiqPending (s : State) : (s.ready).fiqPending = (s.fiqPending && psrF s.cpsr) := rfl

@[simp] theorem State.ready_monitor (s : State) : (s.ready).monitor = s.monitor := rfl

@[simp] theorem State.ready_waiting (s : State) : (s.ready).waiting = false := rfl

@[simp] theorem State.ready_halted (s : State) : (s.ready).halted = none := rfl

@[simp] theorem State.ready_mem (s : State) : (s.ready).mem = s.mem := rfl

@[simp] theorem State.ready_params (s : State) : (s.ready).params = s.params := rfl

@[simp] theorem State.ready_draws (s : State) : (s.ready).draws = s.draws := rfl

@[simp] theorem State.interrupt_cells (s : State) : (s.interrupt).cells = s.cells := rfl

@[simp] theorem State.interrupt_pc (s : State) : (s.interrupt).pc = s.pc := rfl

@[simp] theorem State.interrupt_cpsr (s : State) : (s.interrupt).cpsr = s.cpsr := rfl

@[simp] theorem State.interrupt_spsr (s : State) : (s.interrupt).spsr = s.spsr := rfl

@[simp] theorem State.interrupt_cp15 (s : State) : (s.interrupt).cp15 = s.cp15 := rfl

@[simp] theorem State.interrupt_pendingBranch (s : State) : (s.interrupt).pendingBranch = s.pendingBranch := rfl

@[simp] theorem State.interrupt_irqPending (s : State) : (s.interrupt).irqPending = true := rfl

@[simp] theorem State.interrupt_fiqPending (s : State) : (s.interrupt).fiqPending = s.fiqPending := rfl

@[simp] theorem State.interrupt_monitor (s : State) : (s.interrupt).monitor = s.monitor := rfl

@[simp] theorem State.interrupt_waiting (s : State) : (s.interrupt).waiting = s.waiting := rfl

@[simp] theorem State.interrupt_halted (s : State) : (s.interrupt).halted = s.halted := rfl

@[simp] theorem State.interrupt_mem (s : State) : (s.interrupt).mem = s.mem := rfl

@[simp] theorem State.interrupt_params (s : State) : (s.interrupt).params = s.params := rfl

@[simp] theorem State.interrupt_draws (s : State) : (s.interrupt).draws = s.draws := rfl

@[simp] theorem State.fiq_cells (s : State) : (s.fiq).cells = s.cells := rfl

@[simp] theorem State.fiq_pc (s : State) : (s.fiq).pc = s.pc := rfl

@[simp] theorem State.fiq_cpsr (s : State) : (s.fiq).cpsr = s.cpsr := rfl

@[simp] theorem State.fiq_spsr (s : State) : (s.fiq).spsr = s.spsr := rfl

@[simp] theorem State.fiq_cp15 (s : State) : (s.fiq).cp15 = s.cp15 := rfl

@[simp] theorem State.fiq_pendingBranch (s : State) : (s.fiq).pendingBranch = s.pendingBranch := rfl

@[simp] theorem State.fiq_irqPending (s : State) : (s.fiq).irqPending = s.irqPending := rfl

@[simp] theorem State.fiq_fiqPending (s : State) : (s.fiq).fiqPending = true := rfl

@[simp] theorem State.fiq_monitor (s : State) : (s.fiq).monitor = s.monitor := rfl

@[simp] theorem State.fiq_waiting (s : State) : (s.fiq).waiting = s.waiting := rfl

@[simp] theorem State.fiq_halted (s : State) : (s.fiq).halted = s.halted := rfl

@[simp] theorem State.fiq_mem (s : State) : (s.fiq).mem = s.mem := rfl

@[simp] theorem State.fiq_params (s : State) : (s.fiq).params = s.params := rfl

@[simp] theorem State.fiq_draws (s : State) : (s.fiq).draws = s.draws := rfl

@[simp] theorem State.peerWrite_cells (s : State) (pa : Word) (b : Byte) : (s.peerWrite pa b).cells = s.cells := rfl

@[simp] theorem State.peerWrite_pc (s : State) (pa : Word) (b : Byte) : (s.peerWrite pa b).pc = s.pc := rfl

@[simp] theorem State.peerWrite_cpsr (s : State) (pa : Word) (b : Byte) : (s.peerWrite pa b).cpsr = s.cpsr := rfl

@[simp] theorem State.peerWrite_spsr (s : State) (pa : Word) (b : Byte) : (s.peerWrite pa b).spsr = s.spsr := rfl

@[simp] theorem State.peerWrite_cp15 (s : State) (pa : Word) (b : Byte) : (s.peerWrite pa b).cp15 = s.cp15 := rfl

@[simp] theorem State.peerWrite_pendingBranch (s : State) (pa : Word) (b : Byte) : (s.peerWrite pa b).pendingBranch = s.pendingBranch := rfl

@[simp] theorem State.peerWrite_irqPending (s : State) (pa : Word) (b : Byte) : (s.peerWrite pa b).irqPending = s.irqPending := rfl

@[simp] theorem State.peerWrite_fiqPending (s : State) (pa : Word) (b : Byte) : (s.peerWrite pa b).fiqPending = s.fiqPending := rfl

@[simp] theorem State.peerWrite_monitor (s : State) (pa : Word) (b : Byte) : (s.peerWrite pa b).monitor = s.monitor := rfl

@[simp] theorem State.peerWrite_waiting (s : State) (pa : Word) (b : Byte) : (s.peerWrite pa b).waiting = s.waiting := rfl

@[simp] theorem State.peerWrite_halted (s : State) (pa : Word) (b : Byte) : (s.peerWrite pa b).halted = s.halted := rfl

@[simp] theorem State.peerWrite_mem (s : State) (pa : Word) (b : Byte) : (s.peerWrite pa b).mem = s.mem.write pa b := rfl

@[simp] theorem State.peerWrite_params (s : State) (pa : Word) (b : Byte) : (s.peerWrite pa b).params = s.params := rfl

@[simp] theorem State.peerWrite_draws (s : State) (pa : Word) (b : Byte) : (s.peerWrite pa b).draws = s.draws := rfl

@[simp] theorem State.ticked_cells (s : State) : s.ticked.cells = s.cells := by
  unfold State.ticked
  split <;> rfl

@[simp] theorem State.ticked_pc (s : State) : s.ticked.pc = s.pc := by
  unfold State.ticked
  split <;> rfl

@[simp] theorem State.ticked_cpsr (s : State) : s.ticked.cpsr = s.cpsr := by
  unfold State.ticked
  split <;> rfl

@[simp] theorem State.ticked_spsr (s : State) : s.ticked.spsr = s.spsr := by
  unfold State.ticked
  split <;> rfl

@[simp] theorem State.ticked_cp15 (s : State) : s.ticked.cp15 = s.cp15 := by
  unfold State.ticked
  split <;> rfl

@[simp] theorem State.ticked_pendingBranch (s : State) : s.ticked.pendingBranch = s.pendingBranch := by
  unfold State.ticked
  split <;> rfl

@[simp] theorem State.ticked_irqPending (s : State) : s.ticked.irqPending = s.irqPending := by
  unfold State.ticked
  split <;> rfl

@[simp] theorem State.ticked_fiqPending (s : State) : s.ticked.fiqPending = s.fiqPending := by
  unfold State.ticked
  split <;> rfl

@[simp] theorem State.ticked_monitor (s : State) : s.ticked.monitor = s.monitor := by
  unfold State.ticked
  split <;> rfl

@[simp] theorem State.ticked_waiting (s : State) : s.ticked.waiting = s.waiting := by
  unfold State.ticked
  split <;> rfl

@[simp] theorem State.ticked_halted (s : State) : s.ticked.halted = s.halted := by
  unfold State.ticked
  split <;> rfl

@[simp] theorem State.ticked_mem (s : State) : s.ticked.mem = s.mem := by
  unfold State.ticked
  split <;> rfl

@[simp] theorem State.ticked_params (s : State) : s.ticked.params = s.params := by
  unfold State.ticked
  split <;> rfl

/-- Where no read has side effects, a tick changes nothing. -/
theorem State.ticked_of_plain {s : State} (h : s.params.volatile = []) : s.ticked = s := if_pos h

@[simp] theorem Out.ticked_next (t : State) : Out.ticked (.next t) = .next t.ticked := rfl

@[simp] theorem Out.ticked_fault (f : Fault) : Out.ticked (.fault f) = .fault f := rfl

@[simp] theorem Out.ticked_refused (r : Refusal) : Out.ticked (.refused r) = .refused r := rfl

/-- A ticked outcome goes on exactly where the outcome does, to its state ticked. -/
theorem Out.ticked_eq_next {o : Out} {t : State} (h : o.ticked = .next t) : ∃ u, o = .next u ∧ t = u.ticked := by
  match o, h with
  | .next u, h => exact ⟨u, rfl, (Host.Outcome.next.inj h).symm⟩

/-- R9, R44: reading the register just written, and any other register of the mode. -/
theorem State.rmode_setRmode (s : State) (m m' : Mode) (i j : Reg) (v : Word) (hi : i ≠ pcReg) :
    (s.setRmode m i v).rmode m' j = if cellOf m i = cellOf m' j then v else s.rmode m' j := by
  unfold State.setRmode State.rmode
  rw [if_neg hi]
  simp only [Vector.get_eq_getElem, Vector.getElem_set, Fin.ext_iff]

/-- Writing r15 through a register write changes nothing. -/
@[simp] theorem State.setRmode_r15 (s : State) (m : Mode) (v : Word) : s.setRmode m pcReg v = s := rfl

/-- A register write leaves the mode, the privilege and the translation as they were. -/
@[simp] theorem State.setReg_mode (s : State) (i : Reg) (v : Word) : (s.setReg i v).mode = s.mode := by
  simp [State.mode]

@[simp] theorem State.setReg_privileged (s : State) (i : Reg) (v : Word) : (s.setReg i v).privileged = s.privileged := by
  simp [State.privileged]

/-- R521: the vector of an entry does not depend on the registers. -/
@[simp] theorem State.setReg_vectorBase (s : State) (i : Reg) (v : Word) : (s.setReg i v).vectorBase = s.vectorBase := by
  simp [State.vectorBase]

end Sys2Proof.Machine
end

