-- ==== Sys2Proof/Laws/Results.lean ====
section
/-! SUPPORT. What each shared operation and each body can do, said once: which fields of the state it can change in the
state it leaves, whether it ends well or raises an exception. A halt leaves no state (D49). -/

namespace Sys2Proof.Machine

/-- Every state that the result leaves, at its end or at its exception, has the property. -/
def Res.Leads {α : Type} (P : State → Prop) : Res α → Prop
  | .ok _ t => P t
  | .exc _ t => P t
  | .halt _ => True

@[simp] theorem Res.leads_ok {α : Type} (P : State → Prop) (a : α) (t : State) : (Res.ok a t).Leads P ↔ P t := Iff.rfl

@[simp] theorem Res.leads_exc {α : Type} (P : State → Prop) (e : Exc) (t : State) :
    (Res.exc e t : Res α).Leads P ↔ P t := Iff.rfl

@[simp] theorem Res.leads_halt {α : Type} (P : State → Prop) (f : Fault) : (Res.halt f : Res α).Leads P := trivial

@[simp] theorem Res.leads_done (P : State → Prop) (t : State) : (Res.done t).Leads P ↔ P t := Iff.rfl

theorem Res.Leads.mono {α : Type} {P Q : State → Prop} {r : Res α} (h : r.Leads P) (hPQ : ∀ t, P t → Q t) : r.Leads Q := by
  cases r with
  | ok a t => exact hPQ t h
  | exc e t => exact hPQ t h
  | halt f => trivial

/-- One piece after another: what the first leaves must lead on, and be acceptable if it is where an exception stops. -/
theorem Res.Leads.andThen {α β : Type} {P Q : State → Prop} {r : Res α} {k : α → State → Res β} (h : r.Leads P)
    (hk : ∀ a t, P t → (k a t).Leads Q) (hPQ : ∀ t, P t → Q t) : (r.andThen k).Leads Q := by
  cases r with
  | ok a t => exact hk a t h
  | exc e t => exact hPQ t h
  | halt f => trivial

/-- A piece that ended well ended both its parts well. -/
theorem Res.andThen_ok {α β : Type} {r : Res α} {k : α → State → Res β} {b : β} {t : State}
    (h : r.andThen k = .ok b t) : ∃ a u, r = .ok a u ∧ k a u = .ok b t := by
  cases r with
  | ok a u => exact ⟨a, u, rfl, h⟩
  | exc e u => cases h
  | halt f => cases h

/-! ### The ends of a step -/

/-- R521, R528: an entry halts with SCTLR.TE = 1, else it is the next state. -/
theorem takeException_next {kind : ExcKind} {lr : Word} {s t : State} (h : takeException kind lr s = .next t) :
    bit s.cp15.sctlr 30 = false ∧ t = s.enter kind lr := by
  unfold takeException at h
  split at h
  · cases h
  · rename_i hb
    cases h
    exact ⟨eq_false_of_ne_true hb, rfl⟩

/-- R530 to R533: a raised exception is an entry with the return address of its kind, after the fault recorder for an
abort. -/
theorem raise_next {e : Exc} {s t : State} (h : raise e s = .next t) :
    (e = .undefined ∧ t = s.enter .undefined (s.pc + 4)) ∨
    (e = .supervisorCall ∧ t = s.enter .supervisorCall (s.pc + 4)) ∨
    (∃ va st wr, e = .dataAbort va st wr ∧ t = (s.setMemoryAbort va st wr).enter .dataAbort (s.pc + 8)) ∨
    (∃ va st, e = .prefetchAbort va st ∧ t = (s.setMemoryAbort va st false).enter .prefetchAbort (s.pc + 4)) := by
  cases e with
  | undefined => exact .inl ⟨rfl, (takeException_next h).2⟩
  | supervisorCall => exact .inr (.inl ⟨rfl, (takeException_next h).2⟩)
  | dataAbort va st wr => exact .inr (.inr (.inl ⟨va, st, wr, rfl, (takeException_next h).2⟩))
  | prefetchAbort va st => exact .inr (.inr (.inr ⟨va, st, rfl, (takeException_next h).2⟩))

/-- A body's result gives a next state by its end or by its exception. -/
theorem finish_next {r : Res Unit} {t : State} (h : finish r = .next t) :
    (∃ u, r = .ok () u ∧ t = u.commit) ∨ ∃ e u, r = .exc e u ∧ raise e u = .next t := by
  cases r with
  | ok a u =>
    cases h
    exact .inl ⟨u, rfl, rfl⟩
  | exc e u => exact .inr ⟨e, u, rfl, h⟩
  | halt f => cases h

/-- R13, R190: an instruction with a next state is not UNPREDICTABLE, and either its condition failed and only the PC moved,
or its body ended. -/
theorem runInstr_next {cond : Cond} {cases : List (Bool × Unpred)} {s t : State} {body : State → Res Unit}
    (h : runInstr cond cases s body = .next t) :
    firstCase cases = none ∧
      ((conditionPassed cond s.cpsr = false ∧ t = s.advance) ∨
       (conditionPassed cond s.cpsr = true ∧ finish (body { s with pendingBranch := none }) = .next t)) := by
  unfold runInstr at h
  split at h
  · cases h
  · refine ⟨‹_›, ?_⟩
    split at h
    · exact .inr ⟨‹_›, h⟩
    · rename_i hb
      cases h
      exact .inl ⟨eq_false_of_ne_true hb, rfl⟩

/-- The same read forwards: no UNPREDICTABLE case and a passed condition leave the body's end. -/
theorem runInstr_passed {cond : Cond} {cases : List (Bool × Unpred)} {s : State} {body : State → Res Unit}
    (hc : firstCase cases = none) (hp : conditionPassed cond s.cpsr = true) :
    runInstr cond cases s body = finish (body { s with pendingBranch := none }) := by
  simp [runInstr, hc, hp]

/-- No instruction's meaning is a refusal. -/
theorem takeException_not_refused {kind : ExcKind} {lr : Word} {s : State} {r : Refusal} :
    takeException kind lr s ≠ .refused r := by
  unfold takeException
  split <;> simp

theorem raise_not_refused {e : Exc} {s : State} {r : Refusal} : raise e s ≠ .refused r := by
  cases e <;> exact takeException_not_refused

theorem runInstr_not_refused {cond : Cond} {cases : List (Bool × Unpred)} {s : State} {body : State → Res Unit}
    {r : Refusal} : runInstr cond cases s body ≠ .refused r := by
  unfold runInstr
  split
  · simp
  · split
    · cases body { s with pendingBranch := none } with
      | ok a u => simp [finish]
      | exc e u => exact raise_not_refused
      | halt f => simp [finish]
    · simp

/-! ### Memory accesses -/

theorem translateThen_leads {α : Type} {P : State → Prop} {va : Word} {acc : Access} {s : State} {k : Word → Res α}
    (hs : P s) (hk : ∀ pa, (k pa).Leads P) : (translateThen va acc s k).Leads P := by
  unfold translateThen
  split
  · exact hk _
  · exact hs
  · trivial

theorem readSplit_leads (acc : Access) (s : State) : ∀ (n : Nat) (va : Word), (readSplit va acc s n).Leads (· = s)
  | 0, _ => rfl
  | n + 1, va => by
    refine translateThen_leads rfl fun pa => ?_
    exact (readSplit_leads acc s n (va + 1)).andThen (fun _ _ h => h) fun _ h => h

/-- R107: a read, whether it ends well or aborts, leaves the state as it was. -/
theorem memRead_leads (va : Word) (w : Width) (acc : Access) (s : State) : (memRead va w acc s).Leads (· = s) := by
  have whole : (readWhole va w acc s).Leads (· = s) := translateThen_leads rfl fun _ => rfl
  unfold memRead
  split
  · trivial
  · split
    · exact whole
    · split
      · exact readSplit_leads acc s _ va
      · split
        · rfl
        · exact whole

/-- The state `t` differs from `s` in memory only, and a canonical memory stays canonical. -/
def State.StoredFrom (s t : State) : Prop := ∃ m, t = { s with mem := m } ∧ (s.mem.wf = true → m.wf = true)

theorem State.StoredFrom.refl (s : State) : s.StoredFrom s := ⟨s.mem, rfl, id⟩

theorem State.StoredFrom.trans {s t u : State} (h : s.StoredFrom t) (h' : t.StoredFrom u) : s.StoredFrom u := by
  obtain ⟨m, rfl, hm⟩ := h
  obtain ⟨m', rfl, hm'⟩ := h'
  exact ⟨m', rfl, fun x => hm' (hm x)⟩

theorem State.physWrite_stored (s : State) (pa : Word) (w : Width) (v : Word) : s.StoredFrom (s.physWrite pa w v) :=
  ⟨_, rfl, fun h => State.physWrite_wf pa w v h⟩

theorem writeSplit_leads (acc : Access) : ∀ (n : Nat) (va v : Word) (s : State),
    (writeSplit va acc v s n).Leads s.StoredFrom
  | 0, _, _, s => State.StoredFrom.refl s
  | n + 1, va, v, s => by
    refine translateThen_leads (State.StoredFrom.refl s) fun pa => ?_
    exact (writeSplit_leads acc n (va + 1) (v >>> 8) _).mono fun t h => (s.physWrite_stored pa .byte v).trans h

/-- R107, R108: a write, whether it ends well or aborts, changes memory only. -/
theorem memWrite_leads (va : Word) (w : Width) (v : Word) (acc : Access) (s : State) :
    (memWrite va w v acc s).Leads s.StoredFrom := by
  have whole : (writeWhole va w v acc s).Leads s.StoredFrom :=
    translateThen_leads (State.StoredFrom.refl s) fun pa => s.physWrite_stored pa w v
  unfold memWrite
  split
  · trivial
  · split
    · exact whole
    · split
      · exact writeSplit_leads acc _ va v s
      · split
        · exact State.StoredFrom.refl s
        · exact whole

/-! ### Loads, stores and branches -/

/-- A pending PC write is the old one or a word-aligned address. -/
def PendingFrom (old new : Option Word) : Prop := new = old ∨ ∃ a, new = some a ∧ slice a 0 2 = 0

/-- The state `t` differs from `s` in registers, drawn values and a word-aligned pending PC write only. -/
def State.LoadedFrom (s t : State) : Prop :=
  ∃ c d pb, t = { s with cells := c, draws := d, pendingBranch := pb } ∧ PendingFrom s.pendingBranch pb

theorem State.LoadedFrom.refl (s : State) : s.LoadedFrom s := ⟨_, _, _, rfl, .inl rfl⟩

theorem State.LoadedFrom.trans {s t u : State} (h : s.LoadedFrom t) (h' : t.LoadedFrom u) : s.LoadedFrom u := by
  obtain ⟨c, d, pb, rfl, hp⟩ := h
  obtain ⟨c', d', pb', rfl, hp'⟩ := h'
  refine ⟨c', d', pb', rfl, ?_⟩
  rcases hp' with rfl | ⟨a, rfl, ha⟩
  · exact hp
  · exact .inr ⟨a, rfl, ha⟩

theorem State.setRmode_loaded (s : State) (m : Mode) (i : Reg) (v : Word) : s.LoadedFrom (s.setRmode m i v) := by
  unfold State.setRmode
  split
  · exact State.LoadedFrom.refl s
  · exact ⟨_, _, _, rfl, .inl rfl⟩

theorem State.setReg_loaded (s : State) (i : Reg) (v : Word) : s.LoadedFrom (s.setReg i v) := s.setRmode_loaded _ i v

theorem State.writeBack_loaded (s : State) (ad : Addressing) (rn : Reg) : s.LoadedFrom (s.writeBack ad rn) := by
  unfold State.writeBack
  split
  · exact s.setReg_loaded rn _
  · exact State.LoadedFrom.refl s

theorem State.drawReg_loaded (s : State) (m : Mode) (i : Reg) : s.LoadedFrom (s.drawReg m i) := by
  obtain ⟨c, d, pb, h, hp⟩ := s.setRmode_loaded m i (Config.freeWord s.draws)
  exact ⟨c, s.draws + 1, pb, by simp [State.drawReg, h], hp⟩

/-- R41: an interworking branch to ARM state leaves a word-aligned pending PC write. -/
theorem bxWritePC_leads (a : Word) (s : State) : (bxWritePC a s).Leads s.LoadedFrom := by
  unfold bxWritePC
  split
  · trivial
  · split
    · trivial
    · refine ⟨_, _, _, rfl, .inr ⟨a, rfl, ?_⟩⟩
      have h0 : a.getLsbD 0 = false := by simpa [bit] using ‹¬bit a 0 = true›
      have h1 : a.getLsbD 1 = false := by simpa [bit] using ‹¬bit a 1 = true›
      ext i hi
      simp only [slice, BitVec.getElem_extractLsb']
      interval_cases i
      · simpa using h0
      · simpa using h1

theorem State.branchWritePC_loaded (s : State) (a : Word) : s.LoadedFrom (s.branchWritePC a) := by
  refine ⟨_, _, _, rfl, .inr ⟨_, rfl, ?_⟩⟩
  ext i hi
  simp only [slice, BitVec.getElem_extractLsb', BitVec.getLsbD_and]
  interval_cases i <;> simp

theorem loadBody_leads (w : Width) (u sp : Bool) (ext : Word → Word) (ad : Addressing) (rn rt : Reg) (s : State) :
    (loadBody w u sp ext ad rn rt s).Leads s.LoadedFrom := by
  refine (memRead_leads _ _ _ s).andThen ?_ (fun t h => h ▸ State.LoadedFrom.refl s)
  rintro a t rfl
  exact (t.writeBack_loaded ad rn).trans (State.setReg_loaded _ rt _)

theorem loadWordBody_leads (ad : Addressing) (rn rt : Reg) (s : State) :
    (loadWordBody ad rn rt s).Leads s.LoadedFrom := by
  refine (memRead_leads _ _ _ s).andThen ?_ (fun t h => h ▸ State.LoadedFrom.refl s)
  rintro a t rfl
  split
  · split
    · exact (bxWritePC_leads a _).mono fun u h => (t.writeBack_loaded ad rn).trans h
    · trivial
  · exact (t.writeBack_loaded ad rn).trans (State.setReg_loaded _ rt _)

/-- The state `t` differs from `s` in registers and memory only, and a canonical memory stays canonical. -/
def State.StoredBackFrom (s t : State) : Prop :=
  ∃ c m, t = { s with cells := c, mem := m } ∧ (s.mem.wf = true → m.wf = true)

theorem State.StoredFrom.back {s t : State} (h : s.StoredFrom t) : s.StoredBackFrom t := by
  obtain ⟨m, rfl, hm⟩ := h
  exact ⟨_, m, rfl, hm⟩

theorem State.StoredBackFrom.setReg {s t : State} (h : s.StoredBackFrom t) (i : Reg) (v : Word) :
    s.StoredBackFrom (t.setReg i v) := by
  obtain ⟨c, m, rfl, hm⟩ := h
  unfold State.setReg State.setRmode
  split
  · exact ⟨c, m, rfl, hm⟩
  · exact ⟨_, m, rfl, hm⟩

theorem State.StoredBackFrom.writeBack {s t : State} (h : s.StoredBackFrom t) (ad : Addressing) (rn : Reg) :
    s.StoredBackFrom (t.writeBack ad rn) := by
  unfold State.writeBack
  split
  · exact h.setReg rn _
  · exact h

theorem storeBody_leads (w : Width) (u sp : Bool) (ad : Addressing) (rn rt : Reg) (s : State) :
    (storeBody w u sp ad rn rt s).Leads s.StoredBackFrom :=
  (memWrite_leads _ _ _ _ s).andThen (fun _ _ h => h.back.writeBack ad rn) fun _ h => h.back

theorem storeDualBody_leads (ad : Addressing) (rn rt : Reg) (s : State) :
    (storeDualBody ad rn rt s).Leads s.StoredBackFrom :=
  (memWrite_leads _ _ _ _ s).andThen
    (fun _ t h => (memWrite_leads _ _ _ _ t).andThen (fun _ _ h' => (h.trans h').back.writeBack ad rn)
      fun _ h' => (h.trans h').back)
    fun _ h => h.back

/-- R342: a base register put back keeps every property that register writes keep. -/
theorem keepBase_leads {P : State → Prop} (hset : ∀ t m i v, P t → P (t.setRmode m i v)) (rn : Reg) (s : State)
    {r : Res Unit} (h : r.Leads P) : (keepBase rn s r).Leads P := by
  cases r with
  | ok a t => exact h
  | exc e t => exact hset t _ rn _ h
  | halt f => trivial

/-- Register writes and drawn registers keep a load's frame. -/
theorem State.LoadedFrom.set {s t : State} (h : s.LoadedFrom t) (m : Mode) (i : Reg) (v : Word) :
    s.LoadedFrom (t.setRmode m i v) := h.trans (t.setRmode_loaded m i v)

theorem loadDualBody_leads (ad : Addressing) (rn rt : Reg) (s : State) :
    (loadDualBody ad rn rt s).Leads s.LoadedFrom := by
  refine (memRead_leads _ _ _ s).andThen ?_ (fun t h => h ▸ State.LoadedFrom.refl s)
  rintro lo t rfl
  have h := memRead_leads (ad.address + 4) .word (readAccess false false) t
  split
  · rename_i hi u hr
    rw [hr] at h
    obtain rfl : u = t := h
    exact ((u.writeBack_loaded ad rn).trans (State.setReg_loaded _ rt _)).trans (State.setReg_loaded _ _ _)
  · rename_i e u hr
    rw [hr] at h
    obtain rfl : u = t := h
    exact keepBase_leads (fun _ m i v h => h.set m i v) rn u (u.drawReg_loaded _ _)
  · trivial

/-- R411, R422: the load loop keeps what register writes, drawn registers and its continuation keep. -/
theorem loadList_leads {P : State → Prop} (hset : ∀ t m i v, P t → P (t.setRmode m i v))
    (hdraw : ∀ t m i, P t → P (t.drawReg m i)) (m : Mode) {k : Word → State → Res Unit}
    (hk : ∀ a t, P t → (k a t).Leads P) :
    ∀ (rs : List Reg) (a : Word) (s : State), P s → (loadList m k rs a s).Leads P
  | [], a, s, hs => hk a s hs
  | r :: rs, a, s, hs => by
    refine (memRead_leads _ _ _ s).andThen ?_ (fun t h => h ▸ hs)
    rintro v t rfl
    have h := loadList_leads hset hdraw m hk rs (a + 4) _ (hset t m r v hs)
    split
    · rename_i e u hr
      rw [hr] at h
      exact hdraw u m r h
    · rename_i x u hr
      rw [hr] at h
      exact h
    · trivial

/-- R416, R423: the store loop changes memory only. -/
theorem storeList_leads (m : Mode) : ∀ (rs : List Reg) (a : Word) (s : State), (storeList m rs a s).Leads s.StoredFrom
  | [], _, s => State.StoredFrom.refl s
  | _ :: rs, a, s =>
    (memWrite_leads _ _ _ _ s).andThen
      (fun _ t h => (storeList_leads m rs (a + 4) t).mono fun _ h' => h.trans h') fun _ h => h

theorem ldmBody_leads (p u w : Bool) (rn : Reg) (registers : BitVec 16) (s : State) :
    (ldmBody p u w rn registers s).Leads s.LoadedFrom := by
  have wb (t : State) (v : Word) (h : s.LoadedFrom t) : s.LoadedFrom (if w then t.setReg rn v else t) := by
    split
    · exact h.set _ rn _
    · exact h
  have hset (t : State) (m : Mode) (i : Reg) (v : Word) (h : s.LoadedFrom t) := h.set m i v
  refine keepBase_leads hset rn s (loadList_leads hset (fun t m i h => h.trans (t.drawReg_loaded m i)) _
    (fun a t h => ?_) _ _ s (State.LoadedFrom.refl s))
  split
  · refine (memRead_leads _ _ _ t).andThen ?_ (fun u e => e ▸ h)
    rintro v t rfl
    exact (bxWritePC_leads v t).andThen (fun _ x h' => wb x _ (h.trans h')) fun _ h' => h.trans h'
  · exact wb t _ h

/-- R421: LDM (exception return) keeps what register writes, drawn registers and the return itself keep. -/
theorem ldmExcBody_leads {P : State → Prop} (hset : ∀ t m i v, P t → P (t.setRmode m i v))
    (hdraw : ∀ t m i, P t → P (t.drawReg m i)) (hret : ∀ v t, P t → (exceptionReturn v t).Leads P)
    (o : LdmExcOp) (s : State) (hs : P s) : (ldmExcBody o s).Leads P := by
  unfold ldmExcBody
  split
  · trivial
  · refine keepBase_leads hset o.rn s (loadList_leads hset hdraw _ (fun a t h => ?_) _ _ s hs)
    refine (memRead_leads _ _ _ t).andThen ?_ (fun u e => e ▸ h)
    rintro v t rfl
    refine hret v _ ?_
    split
    · exact hset t _ _ _ h
    · exact h

theorem stmBody_leads (p u w : Bool) (rn : Reg) (registers : BitVec 16) (s : State) :
    (stmBody p u w rn registers s).Leads s.StoredBackFrom := by
  refine (storeList_leads _ _ _ s).andThen (fun _ t h => ?_) fun _ h => h.back
  split
  · exact h.back.setReg rn _
  · exact h.back

theorem ldmUserBody_leads (o : LdmUserOp) (s : State) : (ldmUserBody o s).Leads s.LoadedFrom := by
  unfold ldmUserBody
  split
  · trivial
  · have hset (t : State) (m : Mode) (i : Reg) (v : Word) (h : s.LoadedFrom t) := h.set m i v
    exact keepBase_leads hset _ s (loadList_leads hset (fun t m i h => h.trans (t.drawReg_loaded m i)) _
      (k := fun _ t => .done t) (fun _ _ h => h) _ _ s (State.LoadedFrom.refl s))

theorem stmUserBody_leads (o : StmUserOp) (s : State) : (stmUserBody o s).Leads s.StoredFrom := by
  unfold stmUserBody
  split
  · trivial
  · exact storeList_leads _ _ _ s

/-! ### Exclusives -/

theorem ldrexBody_leads (rn rt : Reg) (s : State) :
    (ldrexBody rn rt s).Leads fun t => ∃ mon, State.LoadedFrom { s with monitor := mon } t := by
  refine (memRead_leads _ _ _ s).andThen ?_ (fun t h => ⟨s.monitor, h ▸ State.LoadedFrom.refl s⟩)
  rintro v t rfl
  exact translateThen_leads ⟨t.monitor, State.LoadedFrom.refl t⟩ fun pa => ⟨_, State.setReg_loaded _ rt _⟩

theorem strexBody_leads (rn rd rt : Reg) (s : State) :
    (strexBody rn rd rt s).Leads fun t => ∃ mon, State.StoredBackFrom { s with monitor := mon } t := by
  refine translateThen_leads ⟨s.monitor, (State.StoredFrom.refl s).back⟩ fun pa => ?_
  split
  · refine (memWrite_leads _ _ _ _ s).andThen (fun _ t h => ?_) fun t h => ⟨s.monitor, h.back⟩
    obtain ⟨m, rfl, hm⟩ := h
    exact ⟨.idle, State.StoredBackFrom.setReg (s := { s with monitor := .idle }) ⟨s.cells, m, rfl, hm⟩ rd 0⟩
  · exact ⟨.idle, State.StoredBackFrom.setReg (State.StoredFrom.refl _).back rd 1⟩

/-! ### Status registers, data processing and CP15 -/

/-- R39: a CPSR write that ends well wrote the masked value, with a legal mode where it wrote the mode, in ARM state. -/
theorem cpsrWriteByInstr_ok {value : Word} {mask : BitVec 4} {ex : Bool} {s t : State}
    (h : cpsrWriteByInstr value mask ex s = .ok () t) :
    t = { s with cpsr := s.cpsrWritten value mask ex } ∧ execStateFault (s.cpsrWritten value mask ex) = none ∧
      (mask.getLsbD 0 = true → s.privileged = true → badMode (psrM value) = false) := by
  unfold cpsrWriteByInstr at h
  split at h
  · cases h
  · split at h
    · cases h
    · cases h
      refine ⟨rfl, ‹_›, fun h1 h2 => ?_⟩
      simp_all

/-- R39: a CPSR write raises no exception. -/
theorem cpsrWriteByInstr_not_exc {value : Word} {mask : BitVec 4} {ex : Bool} {s t : State} {e : Exc} :
    cpsrWriteByInstr value mask ex s ≠ .exc e t := by
  unfold cpsrWriteByInstr
  split
  · simp
  · split <;> simp [Res.done]

/-- R46: an SPSR write that ends well wrote the SPSR of the mode. -/
theorem spsrWriteByInstr_ok {value : Word} {mask : BitVec 4} {s t : State} (h : spsrWriteByInstr value mask s = .ok () t) :
    ∃ old, s.spsr.get s.mode = some old ∧
      t = { s with spsr := s.spsr.set s.mode (merge (spsrWriteMask mask) old value) } := by
  unfold spsrWriteByInstr at h
  split at h
  · cases h
  · split at h
    · cases h
    · cases h
      exact ⟨_, ‹_›, rfl⟩

theorem spsrWriteByInstr_not_exc {value : Word} {mask : BitVec 4} {s t : State} {e : Exc} :
    spsrWriteByInstr value mask s ≠ .exc e t := by
  unfold spsrWriteByInstr
  split
  · simp
  · split <;> simp [Res.done]

/-- R527: an exception return that ends well restored CPSR from the SPSR of a mode that has one, and branches to an aligned
target. -/
theorem exceptionReturn_ok {target : Word} {s t : State} (h : exceptionReturn target s = .ok () t) :
    ∃ spsr, s.spsr.get s.mode = some spsr ∧ (psrT spsr = true ∨ slice target 0 2 = 0) ∧
      execStateFault (s.cpsrWritten spsr 0b1111 true) = none ∧
      (s.privileged = true → badMode (psrM spsr) = false) ∧
      t = State.branchWritePC { s with cpsr := s.cpsrWritten spsr 0b1111 true } target := by
  unfold exceptionReturn at h
  split at h
  · cases h
  · rename_i spsr hs
    split at h
    · cases h
    · obtain ⟨a, u, hu, hk⟩ := Res.andThen_ok h
      obtain ⟨rfl, h1, h2⟩ := cpsrWriteByInstr_ok hu
      cases hk
      refine ⟨spsr, hs, ?_, h1, fun hp => h2 (by decide) hp, rfl⟩
      by_cases ht : psrT spsr = true
      · exact .inl ht
      · exact .inr (by simp_all)

theorem exceptionReturn_not_exc {target : Word} {s t : State} {e : Exc} : exceptionReturn target s ≠ .exc e t := by
  unfold exceptionReturn
  split
  · simp
  · split
    · simp
    · rename_i spsr _ _
      cases h : cpsrWriteByInstr spsr 0b1111 true s with
      | ok a u => simp [Res.andThen, Res.done]
      | exc e' u => exact absurd h cpsrWriteByInstr_not_exc
      | halt f => simp [Res.andThen]

/-- R223: the destination write of data processing: an exception return, an interworking branch, or a register and its
flags. -/
theorem writeDP_ok {rd : Reg} {sf : Bool} {result : Word} {c v : Bool} {s t : State}
    (h : writeDP rd sf result c v s = .ok () t) :
    (rd = pcReg ∧ sf = true ∧ exceptionReturn result s = .ok () t) ∨
    (rd = pcReg ∧ sf = false ∧ bxWritePC result s = .ok () t) ∨
    (rd ≠ pcReg ∧ t = { s.setReg rd result with
      cpsr := if sf then setNZCV s.cpsr (bit result 31) (result == 0) c v else s.cpsr }) := by
  unfold writeDP at h
  split at h
  · split at h
    · exact .inl ⟨‹_›, ‹_›, h⟩
    · rename_i hsf
      exact .inr (.inl ⟨‹_›, eq_false_of_ne_true hsf, h⟩)
  · cases h
    refine .inr (.inr ⟨‹_›, ?_⟩)
    cases sf
    · obtain ⟨cells, d, pb, hs, -⟩ := s.setReg_loaded rd result
      rw [hs]
      simp
    · simp

/-- R490: an MCR that ends well found its row, was admitted, and made the row's write effect. -/
theorem cp15WriteBody_ok {k : Cp15Key} {v : Word} {s t : State} (h : cp15WriteBody k v s = .ok () t) :
    ∃ r, cp15Lookup k = some r ∧ r.access.admits .write = true ∧
      (s.privileged = true ∨ r.access.admitsUser .write = true) ∧ s.barrierDisabled r.name = false ∧
      t = { s with cp15 := s.cp15.written s.params.cfgnmfi r.name v } := by
  unfold cp15WriteBody at h
  split at h
  · cases h
  · rename_i r hr
    split at h
    · cases h
    · split at h
      · cases h
      · cases h
        refine ⟨r, hr, ?_, ?_, ?_, rfl⟩ <;> simp_all
        cases hp : s.privileged <;> simp_all

/-- R491: an MRC leaves the state as it was. -/
theorem cp15ReadBody_leads (k : Cp15Key) (s : State) : (cp15ReadBody k s).Leads (· = s) := by
  unfold cp15ReadBody
  split
  · trivial
  · split
    · trivial
    · split
      · rfl
      · rfl

end Sys2Proof.Machine
end

