-- ==== Sys2Proof/Tests/Slice0.lean ====
section
/-! SUPPORT. The tests: ill-formed terms that `Instr.wf` refuses, a word of every constructor that decodes to it, single
steps whose results are those of spec/95_test_vectors.md, and for every statement that has hypotheses a witness that
meets them. -/

namespace Sys2Proof.Tests

open Sys2Proof Sys2Proof.Machine

-- Many closed facts decided side by side would each ask for a thread with the full stack.
set_option Elab.async false

/-! ### Ill-formed terms, one for each check of WellFormed -/

theorem test_wf_refuses_condition_1111 :
    Instr.wf (.addImm { cond := 15, s := false, rn := 0, rd := 0, imm12 := 0 }) = false := by decide +kernel

theorem test_wf_refuses_post_indexed_writeback :
    Instr.wf (.ldrImm { cond := 14, p := false, u := true, w := true, rn := 1, rt := 0, imm12 := 4 }) = false ∧
    Instr.wf (.strdReg { cond := 14, p := false, u := true, w := true, rn := 1, rt := 2, sbz11_8 := 0, rm := 4 }) = false := by
  decide +kernel

theorem test_wf_refuses_pldw_literal :
    Instr.wf (.pldwImm { u := true, rn := 15, sbo15_12 := 15, imm12 := 0 }) = false := by decide +kernel

theorem test_wf_refuses_extend_add_of_r15 :
    Instr.wf (.sxtab { cond := 14, rn := 15, rd := 0, rotate := 0, sbz9_8 := 0, rm := 1 }) = false ∧
    Instr.wf (.bfi { cond := 14, msb := 3, rd := 0, lsb := 0, rn := 15 }) = false := by decide +kernel

theorem test_wf_refuses_vfp_coprocessor :
    Instr.wf (.cdp { cond := 14, x23_12 := 0, coproc := 10, x7_5 := 0, x3_0 := 0 }) = false ∧
    Instr.wf (.mcr2 { x23_21 := 0, l := false, x19_12 := 0, coproc := 11, x7_5 := 0, x3_0 := 0 }) = false := by
  decide +kernel

theorem test_wf_refuses_p15_as_other_coprocessor :
    Instr.wf (.mcrOther { cond := 14, x23_21 := 0, l := true, x19_12 := 0, coproc := 15, x7_5 := 0, x3_0 := 0 }) = false := by
  decide +kernel

theorem test_wf_refuses_stc_without_addressing :
    Instr.wf (.stc
      { cond := 14, p := false, u := false, d := true, w := false, l := false, rn := 0, x15_12 := 0, coproc := 1, imm8 := 0 })
      = false := by decide +kernel

theorem test_wf_refuses_allocated_hint :
    Instr.wf (.hintUnallocated { cond := 14, sbo15_12 := 15, sbz11_8 := 0, hint := 4 }) = false ∧
    Instr.wf (.hintUnallocated { cond := 14, sbo15_12 := 15, sbz11_8 := 0, hint := 0xF0 }) = false := by decide +kernel

theorem test_wf_refuses_msr_immediate_without_mask :
    Instr.wf (.msrImm { cond := 14, r := false, mask := 0, sbo15_12 := 15, imm12 := 0 }) = false := by decide +kernel

theorem test_wf_refuses_shift_by_zero_that_is_another_row :
    Instr.wf (.lslImm { cond := 14, s := false, sbz19_16 := 0, rd := 0, imm5 := 0, rm := 1 }) = false ∧
    Instr.wf (.rorImm { cond := 14, s := false, sbz19_16 := 0, rd := 0, imm5 := 0, rm := 1 }) = false := by decide +kernel

theorem test_wf_refuses_word_of_another_row :
    Instr.wf (.udf { cond := 15, imm12 := 0, imm4 := 0 }) = false ∧ Instr.wf (.umaal 0xE0010392) = false ∧
    Instr.wf (.srs 0xF8B00A00) = false ∧ Instr.wf (.undefAnyOther 0xE1A00000) = false ∧
    Instr.wf (.vfpData 0xEE010F10) = false := by decide +kernel

/-! ### Words of the spec's encodings -/

theorem test_decode_unconditional :
    decode 0xF1080080 = .cps { imod := 2, m := false, sbz15_9 := 0, a := false, i := true, f := false, mode := 0 } ∧
    decode 0xF1010000 = .setend { sbz15_10 := 0, e := false, sbz8 := 0, sbz3_0 := 0 } ∧
    decode 0xF2210802 = .simdDataProcessing 0xf2210802 ∧
    decode 0xF4200000 = .simdLoadStore 0xf4200000 ∧
    decode 0xF410F000 = .memHintImm 0xf410f000 ∧
    decode 0xF4D0F000 = .pliImm { u := true, rn := 0, sbo15_12 := 15, imm12 := 0 } ∧
    decode 0xF59FF000 = .unpredPldwImm 0xf59ff000 ∧
    decode 0xF590F000 = .pldwImm { u := true, rn := 0, sbo15_12 := 15, imm12 := 0 } ∧
    decode 0xF5D0F040 = .pldImm { u := true, rn := 0, sbo15_12 := 15, imm12 := 64 } ∧
    decode 0xF530F000 = .unpredUncond1010011 0xf530f000 ∧
    decode 0xF57FF01F = .clrex { sbo19_12 := 255, sbz11_8 := 0, sbo3_0 := 15 } ∧
    decode 0xF57FF04F = .dsb { sbo19_12 := 255, sbz11_8 := 0, option := 15 } ∧
    decode 0xF57FF05F = .dmb { sbo19_12 := 255, sbz11_8 := 0, option := 15 } ∧
    decode 0xF57FF06F = .isb { sbo19_12 := 255, sbz11_8 := 0, option := 15 } ∧
    decode 0xF57FF000 = .unpredUncond1010111 0xf57ff000 ∧
    decode 0xF5B0F000 = .unpredUncond1011x11 0xf5b0f000 := by
  decide +kernel

theorem test_decode_unconditional_rest :
    decode 0xF610F000 = .memHintReg 0xf610f000 ∧
    decode 0xF6D0F001 = .pliReg { u := true, rn := 0, sbo15_12 := 15, imm5 := 0, type := 0, rm := 1 } ∧
    decode 0xF790F001 = .pldwReg { u := true, rn := 0, sbo15_12 := 15, imm5 := 0, type := 0, rm := 1 } ∧
    decode 0xF7D0F001 = .pldReg { u := true, rn := 0, sbo15_12 := 15, imm5 := 0, type := 0, rm := 1 } ∧
    decode 0xF630F000 = .unpredUncond11xxx11 0xf630f000 ∧
    decode 0xF1000020 = .undefUncondMisc 0xf1000020 ∧
    decode 0xF8ED0513 = .srs 0xf8ed0513 ∧
    decode 0xF8B00A00 = .rfe 0xf8b00a00 ∧
    decode 0xFA000000 = .blxImm { h := false, imm24 := 0 } ∧
    decode 0xFC000000 = .undefUncond1100000 0xfc000000 ∧
    decode 0xFC900A00 = .vfpUncondLoadStore 0xfc900a00 ∧
    decode 0xFE000A00 = .vfpUncondData 0xfe000a00 ∧
    decode 0xFC410102 = .mcrr2 { l := false, x19_12 := 16, coproc := 1, x7_0 := 2 } ∧
    decode 0xFD800100 = .stc2 { p := true, u := true, d := false, w := false, l := false, rn := 0, x15_12 := 0, coproc := 1, imm8 := 0 } ∧
    decode 0xFE000100 = .cdp2 { x23_12 := 0, coproc := 1, x7_5 := 0, x3_0 := 0 } ∧
    decode 0xFE000110 = .mcr2 { x23_21 := 0, l := false, x19_12 := 0, coproc := 1, x7_5 := 0, x3_0 := 0 } ∧
    decode 0xFFFFFFFF = .undefUncondOther 0xffffffff := by
  decide +kernel

theorem test_decode_miscellaneous :
    decode 0xE1000200 = .mrsMsrBanked 0xe1000200 ∧
    decode 0xE10F0000 = .mrs { cond := 14, r := false, sbo19_16 := 15, rd := 0, sbz11_10 := 0, sbz8 := 0, sbz3_0 := 0 } ∧
    decode 0xE121F000 = .msrReg { cond := 14, r := false, mask := 1, sbo15_12 := 15, sbz11_10 := 0, sbz8 := 0, rn := 0 } ∧
    decode 0xE12FFF1E = .bx { cond := 14, sbo19_8 := 0xfff, rm := 14 } ∧
    decode 0xE16F0F11 = .clz { cond := 14, sbo19_16 := 15, rd := 0, sbo11_8 := 15, rm := 1 } ∧
    decode 0xE12FFF20 = .bxj { cond := 14, sbo19_8 := 0xfff, rm := 0 } ∧
    decode 0xE12FFF33 = .blxReg { cond := 14, sbo19_8 := 0xfff, rm := 3 } ∧
    decode 0xE1010052 = .qadd { cond := 14, op := 0, rn := 1, rd := 0, sbz11_8 := 0, rm := 2 } ∧
    decode 0xE160006E = .eret 0xe160006e ∧
    decode 0xE1200070 = .bkpt { cond := 14, imm12 := 0, imm4 := 0 } ∧
    decode 0xE1400070 = .hvc 0xe1400070 ∧
    decode 0xE1600070 = .smc { cond := 14, sbz19_8 := 0, imm4 := 0 } ∧
    decode 0xE1002081 = .halfwordMultiply 0xe1002081 ∧
    decode 0xE1000010 = .undefMisc 0xe1000010 := by
  decide +kernel

theorem test_decode_multiply_and_sync :
    decode 0xE0100291 = .mul { cond := 14, s := true, rd := 0, sbz15_12 := 0, rm := 2, rn := 1 } ∧
    decode 0xE0203291 = .mla { cond := 14, s := false, rd := 0, ra := 3, rm := 2, rn := 1 } ∧
    decode 0xE0410392 = .umaal 0xe0410392 ∧
    decode 0xE0500090 = .undefMultiply0101 0xe0500090 ∧
    decode 0xE0603291 = .mls { cond := 14, rd := 0, ra := 3, rm := 2, rn := 1 } ∧
    decode 0xE0700090 = .undefMultiply0111 0xe0700090 ∧
    decode 0xE0810392 = .umull { cond := 14, s := false, rdHi := 1, rdLo := 0, rm := 3, rn := 2 } ∧
    decode 0xE0A10392 = .umlal { cond := 14, s := false, rdHi := 1, rdLo := 0, rm := 3, rn := 2 } ∧
    decode 0xE0C10392 = .smull { cond := 14, s := false, rdHi := 1, rdLo := 0, rm := 3, rn := 2 } ∧
    decode 0xE0F10392 = .smlal { cond := 14, s := true, rdHi := 1, rdLo := 0, rm := 3, rn := 2 } ∧
    decode 0xE1020091 = .swp { cond := 14, b := false, rn := 2, rt := 0, sbz11_8 := 0, rm := 1 } ∧
    decode 0xE1813F92 = .strex { cond := 14, rn := 1, rd := 3, sbo11_8 := 15, rt := 2 } ∧
    decode 0xE1910F9F = .ldrex { cond := 14, rn := 1, rt := 0, sbo11_8 := 15, sbo3_0 := 15 } ∧
    decode 0xE1D10F9F = .exclusiveWidths 0xe1d10f9f ∧
    decode 0xE1200090 = .undefSync 0xe1200090 ∧
    decode 0xE02100D2 = .unpredLdrdStrd 0xe02100d2 := by
  decide +kernel

theorem test_decode_extra_load_store :
    decode 0xE0E100B2 = .strhtImm { cond := 14, u := true, rn := 1, rt := 0, imm4H := 0, imm4L := 2 } ∧
    decode 0xE0A100B2 = .strhtReg { cond := 14, u := true, rn := 1, rt := 0, sbz11_8 := 0, rm := 2 } ∧
    decode 0xE1C100B2 = .strhImm { cond := 14, p := true, u := true, w := false, rn := 1, rt := 0, imm4H := 0, imm4L := 2 } ∧
    decode 0xE18100B2 = .strhReg { cond := 14, p := true, u := true, w := false, rn := 1, rt := 0, sbz11_8 := 0, rm := 2 } ∧
    decode 0xE0F100B2 = .ldrhtImm { cond := 14, u := true, rn := 1, rt := 0, imm4H := 0, imm4L := 2 } ∧
    decode 0xE0B100B2 = .ldrhtReg { cond := 14, u := true, rn := 1, rt := 0, sbz11_8 := 0, rm := 2 } ∧
    decode 0xE1D100B2 = .ldrhImm { cond := 14, p := true, u := true, w := false, rn := 1, rt := 0, imm4H := 0, imm4L := 2 } ∧
    decode 0xE19100B2 = .ldrhReg { cond := 14, p := true, u := true, w := false, rn := 1, rt := 0, sbz11_8 := 0, rm := 2 } ∧
    decode 0xE1C120D8 = .ldrdImm { cond := 14, p := true, u := true, w := false, rn := 1, rt := 2, imm4H := 0, imm4L := 8 } ∧
    decode 0xE18120D4 = .ldrdReg { cond := 14, p := true, u := true, w := false, rn := 1, rt := 2, sbz11_8 := 0, rm := 4 } ∧
    decode 0xE0F100D1 = .ldrsbtImm { cond := 14, u := true, rn := 1, rt := 0, imm4H := 0, imm4L := 1 } ∧
    decode 0xE0B100D2 = .ldrsbtReg { cond := 14, u := true, rn := 1, rt := 0, sbz11_8 := 0, rm := 2 } ∧
    decode 0xE1D100D0 = .ldrsbImm { cond := 14, p := true, u := true, w := false, rn := 1, rt := 0, imm4H := 0, imm4L := 0 } ∧
    decode 0xE19100D2 = .ldrsbReg { cond := 14, p := true, u := true, w := false, rn := 1, rt := 0, sbz11_8 := 0, rm := 2 } ∧
    decode 0xE1C120F8 = .strdImm { cond := 14, p := true, u := true, w := false, rn := 1, rt := 2, imm4H := 0, imm4L := 8 } ∧
    decode 0xE18120F4 = .strdReg { cond := 14, p := true, u := true, w := false, rn := 1, rt := 2, sbz11_8 := 0, rm := 4 } ∧
    decode 0xE0F100F2 = .ldrshtImm { cond := 14, u := true, rn := 1, rt := 0, imm4H := 0, imm4L := 2 } ∧
    decode 0xE0B100F2 = .ldrshtReg { cond := 14, u := true, rn := 1, rt := 0, sbz11_8 := 0, rm := 2 } ∧
    decode 0xE1D100F0 = .ldrshImm { cond := 14, p := true, u := true, w := false, rn := 1, rt := 0, imm4H := 0, imm4L := 0 } ∧
    decode 0xE19100F2 = .ldrshReg { cond := 14, p := true, u := true, w := false, rn := 1, rt := 0, sbz11_8 := 0, rm := 2 } := by
  decide +kernel

theorem test_decode_moves_and_hints :
    decode 0xE3010234 = .movw { cond := 14, imm4 := 1, rd := 0, imm12 := 0x234 } ∧
    decode 0xE34A0BCD = .movt { cond := 14, imm4 := 10, rd := 0, imm12 := 0xbcd } ∧
    decode 0xE320F000 = .nop { cond := 14, sbo15_12 := 15, sbz11_8 := 0 } ∧
    decode 0xE320F001 = .yield { cond := 14, sbo15_12 := 15, sbz11_8 := 0 } ∧
    decode 0xE320F002 = .wfe { cond := 14, sbo15_12 := 15, sbz11_8 := 0 } ∧
    decode 0xE320F003 = .wfi { cond := 14, sbo15_12 := 15, sbz11_8 := 0 } ∧
    decode 0xE320F004 = .sev { cond := 14, sbo15_12 := 15, sbz11_8 := 0 } ∧
    decode 0xE320F0F5 = .dbg { cond := 14, sbo15_12 := 15, sbz11_8 := 0, option := 5 } ∧
    decode 0xE320F010 = .hintUnallocated { cond := 14, sbo15_12 := 15, sbz11_8 := 0, hint := 16 } ∧
    decode 0xE360F000 = .unpredMsrImm 0xe360f000 ∧
    decode 0xE328F20F = .msrImm { cond := 14, r := false, mask := 8, sbo15_12 := 15, imm12 := 0x20f } := by
  decide +kernel

theorem test_decode_data_processing_and_to_add :
    decode 0xE21100FF = .andImm { cond := 14, s := true, rn := 1, rd := 0, imm12 := 255 } ∧
    decode 0xE0110002 = .andReg { cond := 14, s := true, rn := 1, rd := 0, imm5 := 0, type := 0, rm := 2 } ∧
    decode 0xE0110312 = .andRsr { cond := 14, s := true, rn := 1, rd := 0, rs := 3, type := 0, rm := 2 } ∧
    decode 0xE22100FF = .eorImm { cond := 14, s := false, rn := 1, rd := 0, imm12 := 255 } ∧
    decode 0xE0202001 = .eorReg { cond := 14, s := false, rn := 0, rd := 2, imm5 := 0, type := 0, rm := 1 } ∧
    decode 0xE0210332 = .eorRsr { cond := 14, s := false, rn := 1, rd := 0, rs := 3, type := 1, rm := 2 } ∧
    decode 0xE2510007 = .subImm { cond := 14, s := true, rn := 1, rd := 0, imm12 := 7 } ∧
    decode 0xE0502001 = .subReg { cond := 14, s := true, rn := 0, rd := 2, imm5 := 0, type := 0, rm := 1 } ∧
    decode 0xE0410352 = .subRsr { cond := 14, s := false, rn := 1, rd := 0, rs := 3, type := 2, rm := 2 } ∧
    decode 0xE2610000 = .rsbImm { cond := 14, s := false, rn := 1, rd := 0, imm12 := 0 } ∧
    decode 0xE0610002 = .rsbReg { cond := 14, s := false, rn := 1, rd := 0, imm5 := 0, type := 0, rm := 2 } ∧
    decode 0xE0610372 = .rsbRsr { cond := 14, s := false, rn := 1, rd := 0, rs := 3, type := 3, rm := 2 } ∧
    decode 0xE2902001 = .addImm { cond := 14, s := true, rn := 0, rd := 2, imm12 := 1 } ∧
    decode 0xE0902001 = .addReg { cond := 14, s := true, rn := 0, rd := 2, imm5 := 0, type := 0, rm := 1 } ∧
    decode 0xE0810312 = .addRsr { cond := 14, s := false, rn := 1, rd := 0, rs := 3, type := 0, rm := 2 } := by
  decide +kernel

theorem test_decode_data_processing_adc_to_cmn :
    decode 0xE2A10001 = .adcImm { cond := 14, s := false, rn := 1, rd := 0, imm12 := 1 } ∧
    decode 0xE0B10002 = .adcReg { cond := 14, s := true, rn := 1, rd := 0, imm5 := 0, type := 0, rm := 2 } ∧
    decode 0xE0A10312 = .adcRsr { cond := 14, s := false, rn := 1, rd := 0, rs := 3, type := 0, rm := 2 } ∧
    decode 0xE2C10001 = .sbcImm { cond := 14, s := false, rn := 1, rd := 0, imm12 := 1 } ∧
    decode 0xE0D10002 = .sbcReg { cond := 14, s := true, rn := 1, rd := 0, imm5 := 0, type := 0, rm := 2 } ∧
    decode 0xE0C10312 = .sbcRsr { cond := 14, s := false, rn := 1, rd := 0, rs := 3, type := 0, rm := 2 } ∧
    decode 0xE2F10003 = .rscImm { cond := 14, s := true, rn := 1, rd := 0, imm12 := 3 } ∧
    decode 0xE0E02001 = .rscReg { cond := 14, s := false, rn := 0, rd := 2, imm5 := 0, type := 0, rm := 1 } ∧
    decode 0xE0E10312 = .rscRsr { cond := 14, s := false, rn := 1, rd := 0, rs := 3, type := 0, rm := 2 } ∧
    decode 0xE3110080 = .tstImm { cond := 14, rn := 1, sbz15_12 := 0, imm12 := 128 } ∧
    decode 0xE1110002 = .tstReg { cond := 14, rn := 1, sbz15_12 := 0, imm5 := 0, type := 0, rm := 2 } ∧
    decode 0xE1110312 = .tstRsr { cond := 14, rn := 1, sbz15_12 := 0, rs := 3, type := 0, rm := 2 } ∧
    decode 0xE3310001 = .teqImm { cond := 14, rn := 1, sbz15_12 := 0, imm12 := 1 } ∧
    decode 0xE1310002 = .teqReg { cond := 14, rn := 1, sbz15_12 := 0, imm5 := 0, type := 0, rm := 2 } ∧
    decode 0xE1310312 = .teqRsr { cond := 14, rn := 1, sbz15_12 := 0, rs := 3, type := 0, rm := 2 } ∧
    decode 0xE3510001 = .cmpImm { cond := 14, rn := 1, sbz15_12 := 0, imm12 := 1 } ∧
    decode 0xE1510182 = .cmpReg { cond := 14, rn := 1, sbz15_12 := 0, imm5 := 3, type := 0, rm := 2 } ∧
    decode 0xE1510312 = .cmpRsr { cond := 14, rn := 1, sbz15_12 := 0, rs := 3, type := 0, rm := 2 } ∧
    decode 0xE3710001 = .cmnImm { cond := 14, rn := 1, sbz15_12 := 0, imm12 := 1 } ∧
    decode 0xE1710002 = .cmnReg { cond := 14, rn := 1, sbz15_12 := 0, imm5 := 0, type := 0, rm := 2 } ∧
    decode 0xE1710312 = .cmnRsr { cond := 14, rn := 1, sbz15_12 := 0, rs := 3, type := 0, rm := 2 } := by
  decide +kernel

theorem test_decode_data_processing_orr_to_mvn :
    decode 0xE3910102 = .orrImm { cond := 14, s := true, rn := 1, rd := 0, imm12 := 0x102 } ∧
    decode 0xE1802001 = .orrReg { cond := 14, s := false, rn := 0, rd := 2, imm5 := 0, type := 0, rm := 1 } ∧
    decode 0xE1810312 = .orrRsr { cond := 14, s := false, rn := 1, rd := 0, rs := 3, type := 0, rm := 2 } ∧
    decode 0xE3A00001 = .movImm { cond := 14, s := false, sbz19_16 := 0, rd := 0, imm12 := 1 } ∧
    decode 0xE1A00001 = .movReg { cond := 14, s := false, sbz19_16 := 0, rd := 0, rm := 1 } ∧
    decode 0xE1B00061 = .rrx { cond := 14, s := true, sbz19_16 := 0, rd := 0, rm := 1 } ∧
    decode 0xE1B00081 = .lslImm { cond := 14, s := true, sbz19_16 := 0, rd := 0, imm5 := 1, rm := 1 } ∧
    decode 0xE1B00021 = .lsrImm { cond := 14, s := true, sbz19_16 := 0, rd := 0, imm5 := 0, rm := 1 } ∧
    decode 0xE1B00041 = .asrImm { cond := 14, s := true, sbz19_16 := 0, rd := 0, imm5 := 0, rm := 1 } ∧
    decode 0xE1B00261 = .rorImm { cond := 14, s := true, sbz19_16 := 0, rd := 0, imm5 := 4, rm := 1 } ∧
    decode 0xE1B00211 = .lslReg { cond := 14, s := true, sbz19_16 := 0, rd := 0, rs := 2, rm := 1 } ∧
    decode 0xE1B00231 = .lsrReg { cond := 14, s := true, sbz19_16 := 0, rd := 0, rs := 2, rm := 1 } ∧
    decode 0xE1B00251 = .asrReg { cond := 14, s := true, sbz19_16 := 0, rd := 0, rs := 2, rm := 1 } ∧
    decode 0xE1B00271 = .rorReg { cond := 14, s := true, sbz19_16 := 0, rd := 0, rs := 2, rm := 1 } ∧
    decode 0xE3C100FF = .bicImm { cond := 14, s := false, rn := 1, rd := 0, imm12 := 255 } ∧
    decode 0xE1C10002 = .bicReg { cond := 14, s := false, rn := 1, rd := 0, imm5 := 0, type := 0, rm := 2 } ∧
    decode 0xE1C10312 = .bicRsr { cond := 14, s := false, rn := 1, rd := 0, rs := 3, type := 0, rm := 2 } ∧
    decode 0xE3E00000 = .mvnImm { cond := 14, s := false, sbz19_16 := 0, rd := 0, imm12 := 0 } ∧
    decode 0xE1E00001 = .mvnReg { cond := 14, s := false, sbz19_16 := 0, rd := 0, imm5 := 0, type := 0, rm := 1 } ∧
    decode 0xE1E00211 = .mvnRsr { cond := 14, s := false, sbz19_16 := 0, rd := 0, rs := 2, type := 0, rm := 1 } := by
  decide +kernel

theorem test_decode_load_store :
    decode 0xE4A10004 = .strtImm { cond := 14, u := true, rn := 1, rt := 0, imm12 := 4 } ∧
    decode 0xE6A10002 = .strtReg { cond := 14, u := true, rn := 1, rt := 0, imm5 := 0, type := 0, rm := 2 } ∧
    decode 0xE5210004 = .strImm { cond := 14, p := true, u := false, w := true, rn := 1, rt := 0, imm12 := 4 } ∧
    decode 0xE7810002 = .strReg { cond := 14, p := true, u := true, w := false, rn := 1, rt := 0, imm5 := 0, type := 0, rm := 2 } ∧
    decode 0xE4B10004 = .ldrtImm { cond := 14, u := true, rn := 1, rt := 0, imm12 := 4 } ∧
    decode 0xE6B10002 = .ldrtReg { cond := 14, u := true, rn := 1, rt := 0, imm5 := 0, type := 0, rm := 2 } ∧
    decode 0xE5910004 = .ldrImm { cond := 14, p := true, u := true, w := false, rn := 1, rt := 0, imm12 := 4 } ∧
    decode 0xE7910102 = .ldrReg { cond := 14, p := true, u := true, w := false, rn := 1, rt := 0, imm5 := 2, type := 0, rm := 2 } ∧
    decode 0xE4E10004 = .strbtImm { cond := 14, u := true, rn := 1, rt := 0, imm12 := 4 } ∧
    decode 0xE6E10002 = .strbtReg { cond := 14, u := true, rn := 1, rt := 0, imm5 := 0, type := 0, rm := 2 } ∧
    decode 0xE5C10000 = .strbImm { cond := 14, p := true, u := true, w := false, rn := 1, rt := 0, imm12 := 0 } ∧
    decode 0xE7C10002 = .strbReg { cond := 14, p := true, u := true, w := false, rn := 1, rt := 0, imm5 := 0, type := 0, rm := 2 } ∧
    decode 0xE4F10004 = .ldrbtImm { cond := 14, u := true, rn := 1, rt := 0, imm12 := 4 } ∧
    decode 0xE6F10002 = .ldrbtReg { cond := 14, u := true, rn := 1, rt := 0, imm5 := 0, type := 0, rm := 2 } ∧
    decode 0xE5D10001 = .ldrbImm { cond := 14, p := true, u := true, w := false, rn := 1, rt := 0, imm12 := 1 } ∧
    decode 0xE7D10002 = .ldrbReg { cond := 14, p := true, u := true, w := false, rn := 1, rt := 0, imm5 := 0, type := 0, rm := 2 } := by
  decide +kernel

theorem test_decode_media_extend :
    decode 0xE6110F12 = .parallelAddSub 0xe6110f12 ∧
    decode 0xE6810012 = .pkh 0xe6810012 ∧
    decode 0xE68F0071 = .sxtb16 { cond := 14, rd := 0, rotate := 0, sbz9_8 := 0, rm := 1 } ∧
    decode 0xE6810072 = .sxtab16 { cond := 14, rn := 1, rd := 0, rotate := 0, sbz9_8 := 0, rm := 2 } ∧
    decode 0xE6AF0071 = .sxtb { cond := 14, rd := 0, rotate := 0, sbz9_8 := 0, rm := 1 } ∧
    decode 0xE6A10072 = .sxtab { cond := 14, rn := 1, rd := 0, rotate := 0, sbz9_8 := 0, rm := 2 } ∧
    decode 0xE6BF0071 = .sxth { cond := 14, rd := 0, rotate := 0, sbz9_8 := 0, rm := 1 } ∧
    decode 0xE6B10072 = .sxtah { cond := 14, rn := 1, rd := 0, rotate := 0, sbz9_8 := 0, rm := 2 } ∧
    decode 0xE6CF0071 = .uxtb16 { cond := 14, rd := 0, rotate := 0, sbz9_8 := 0, rm := 1 } ∧
    decode 0xE6C10072 = .uxtab16 { cond := 14, rn := 1, rd := 0, rotate := 0, sbz9_8 := 0, rm := 2 } ∧
    decode 0xE6EF0471 = .uxtb { cond := 14, rd := 0, rotate := 1, sbz9_8 := 0, rm := 1 } ∧
    decode 0xE6E10072 = .uxtab { cond := 14, rn := 1, rd := 0, rotate := 0, sbz9_8 := 0, rm := 2 } ∧
    decode 0xE6FF0071 = .uxth { cond := 14, rd := 0, rotate := 0, sbz9_8 := 0, rm := 1 } ∧
    decode 0xE6F10872 = .uxtah { cond := 14, rn := 1, rd := 0, rotate := 2, sbz9_8 := 0, rm := 2 } := by
  decide +kernel

theorem test_decode_media_rest :
    decode 0xE6810FB2 = .sel 0xe6810fb2 ∧
    decode 0xE6A00F31 = .ssat16 0xe6a00f31 ∧
    decode 0xE6A00011 = .ssat 0xe6a00011 ∧
    decode 0xE6BF0F31 = .rev { cond := 14, sbo19_16 := 15, rd := 0, sbo11_8 := 15, rm := 1 } ∧
    decode 0xE6BF0FB1 = .rev16 { cond := 14, sbo19_16 := 15, rd := 0, sbo11_8 := 15, rm := 1 } ∧
    decode 0xE6E00F31 = .usat16 0xe6e00f31 ∧
    decode 0xE6E00011 = .usat 0xe6e00011 ∧
    decode 0xE6FF0F31 = .rbit 0xe6ff0f31 ∧
    decode 0xE6FF0FB1 = .revsh { cond := 14, sbo19_16 := 15, rd := 0, sbo11_8 := 15, rm := 1 } ∧
    decode 0xE700F211 = .signedMultiply 0xe700f211 ∧
    decode 0xE780F211 = .usad8 0xe780f211 ∧
    decode 0xE7A70251 = .sbfx { cond := 14, widthm1 := 7, rd := 0, lsb := 4, rn := 1 } ∧
    decode 0xE7CB041F = .bfc { cond := 14, msb := 11, rd := 0, lsb := 8 } ∧
    decode 0xE7CB0411 = .bfi { cond := 14, msb := 11, rd := 0, lsb := 8, rn := 1 } ∧
    decode 0xE7F000F0 = .udf { cond := 14, imm12 := 0, imm4 := 0 } ∧
    decode 0xE7E70251 = .ubfx { cond := 14, widthm1 := 7, rd := 0, lsb := 4, rn := 1 } := by
  decide +kernel

theorem test_decode_block_and_branch :
    decode 0xE8FD8001 = .ldmExcReturn { cond := 14, p := false, u := true, w := true, rn := 13, registers := 1 } ∧
    decode 0xE8D06000 = .ldmUser { cond := 14, p := false, u := true, sbz21 := 0, rn := 0, registers := 0x6000 } ∧
    decode 0xE8C06000 = .stmUser { cond := 14, p := false, u := true, sbz21 := 0, rn := 0, registers := 0x6000 } ∧
    decode 0xE8200006 = .stmda { cond := 14, w := true, rn := 0, registers := 6 } ∧
    decode 0xE8300006 = .ldmda { cond := 14, w := true, rn := 0, registers := 6 } ∧
    decode 0xE8A00006 = .stm { cond := 14, w := true, rn := 0, registers := 6 } ∧
    decode 0xE8BD8010 = .ldm { cond := 14, w := true, rn := 13, registers := 0x8010 } ∧
    decode 0xE92D4010 = .stmdb { cond := 14, w := true, rn := 13, registers := 0x4010 } ∧
    decode 0xE9100006 = .ldmdb { cond := 14, w := false, rn := 0, registers := 6 } ∧
    decode 0xE9800006 = .stmib { cond := 14, w := false, rn := 0, registers := 6 } ∧
    decode 0xE9900006 = .ldmib { cond := 14, w := false, rn := 0, registers := 6 } ∧
    decode 0xEAFFFFFE = .b { cond := 14, imm24 := 0xfffffe } ∧
    decode 0xEB00003E = .bl { cond := 14, imm24 := 62 } := by
  decide +kernel

theorem test_decode_coprocessor :
    decode 0xEC000100 = .undefCoproc00000 0xec000100 ∧
    decode 0xEF000000 = .svc { cond := 14, imm24 := 0 } ∧
    decode 0xED910A00 = .vfpLoadStore 0xed910a00 ∧
    decode 0xEEF10A10 = .vfpData 0xeef10a10 ∧
    decode 0xEE010F10 = .mcrP15 { cond := 14, opc1 := 0, crn := 1, rt := 0, opc2 := 0, crm := 0 } ∧
    decode 0xEE100F10 = .mrcP15 { cond := 14, opc1 := 0, crn := 0, rt := 0, opc2 := 0, crm := 0 } ∧
    decode 0xEC410102 = .mcrr { cond := 14, l := false, x19_12 := 16, coproc := 1, x7_0 := 2 } ∧
    decode 0xED800100 = .stc { cond := 14, p := true, u := true, d := false, w := false, l := false, rn := 0, x15_12 := 0, coproc := 1, imm8 := 0 } ∧
    decode 0xEE000100 = .cdp { cond := 14, x23_12 := 0, coproc := 1, x7_5 := 0, x3_0 := 0 } ∧
    decode 0xEE100E10 = .mcrOther { cond := 14, x23_21 := 0, l := true, x19_12 := 0, coproc := 14, x7_5 := 0, x3_0 := 0 } ∧
    decode 0xE6900010 = .undefAnyOther 0xe6900010 := by
  decide +kernel
/-! ### Single steps (spec/95_test_vectors.md) -/

/-- The start state of the vectors: SVC mode at 0x8000. -/
def svc : State := { State.reset with pc := 0x8000 }

/-- The same in User mode. -/
def usr : State := { svc with cpsr := 0x10 }

def withRegs (s : State) (l : List (Reg × Word)) : State := l.foldl (fun t p => t.setReg p.1 p.2) s

def withMem (s : State) (l : List (Word × Word)) : State := l.foldl (fun t p => t.physWrite p.1 .word p.2) s

def withSctlr (s : State) (v : Word) : State := { s with cp15 := { s.cp15 with sctlr := v } }

/-- The MMU on, with the table at 0x4000 and the section 0x00000C02 at its start. -/
def mapped (s : State) (dacr : Word) (l : List (Word × Word)) : State :=
  withMem { s with cp15 := { s.cp15 with sctlr := 0x00C50079, ttbr0 := 0x4000, dacr := dacr } } ((0x4000, 0xC02) :: l)

def word (s : State) (a : Word) : Word := joinBytes s.mem.read a 4

/-- What a view of the state after one step of the word gives. -/
def after {α : Type} (s : State) (w : Nat) (view : State → α) : Option α :=
  match step (s.withFetchWord 32 w) with
  | .next t => some (view t)
  | _ => none

def stops (s : State) (w : Nat) : Option Fault :=
  match step (s.withFetchWord 32 w) with
  | .fault f => some f
  | _ => none

theorem test_adds_wraps :
    after (withRegs svc [(0, 0xFFFFFFFF), (1, 1)]) 0xE0902001 (fun t => (t.reg 2, t.cpsr)) = some (0, 0x600001D3) := by
  decide +kernel

theorem test_adds_overflows :
    after (withRegs svc [(0, 0x7FFFFFFF), (1, 1)]) 0xE0902001 (fun t => (t.reg 2, t.cpsr))
      = some (0x80000000, 0x900001D3) := by decide +kernel

theorem test_subs_borrows :
    after (withRegs svc [(0, 3), (1, 5)]) 0xE0502001 (fun t => (t.reg 2, t.cpsr)) = some (0xFFFFFFFE, 0x800001D3) := by
  decide +kernel

theorem test_sbcs_without_carry :
    after (withRegs svc [(0, 5), (1, 5)]) 0xE0D02001 (fun t => (t.reg 2, t.cpsr)) = some (0xFFFFFFFF, 0x800001D3) := by
  decide +kernel

theorem test_ands_takes_the_shifter_carry :
    after (withRegs svc [(0, 0xFFFFFFFF), (1, 0x80000000)]) 0xE0102081 (fun t => (t.reg 2, t.cpsr))
      = some (0, 0x600001D3) := by decide +kernel

theorem test_lsr_by_32 :
    after (withRegs svc [(0, 0x80000000)]) 0xE1B02020 (fun t => (t.reg 2, t.cpsr)) = some (0, 0x600001D3) := by
  decide +kernel

theorem test_rrx_shifts_the_carry_in :
    after { withRegs svc [(0, 3)] with cpsr := 0x200001D3 } 0xE1B02060 (fun t => (t.reg 2, t.cpsr))
      = some (0x80000001, 0xA00001D3) := by decide +kernel

theorem test_lsr_by_register_uses_the_low_byte :
    after { withRegs svc [(0, 0x80000000), (1, 0x100)] with cpsr := 0x200001D3 } 0xE1B02130 (fun t => (t.reg 2, t.cpsr))
      = some (0x80000000, 0xA00001D3) := by decide +kernel

theorem test_movs_immediate_carry :
    after svc 0xE3B024FF (fun t => (t.reg 2, t.cpsr)) = some (0xFF000000, 0xA00001D3) := by decide +kernel

theorem test_cmp_writes_only_flags :
    after svc 0xE3500001 (fun t => (t.reg 0, t.cpsr)) = some (0, 0x800001D3) := by decide +kernel

theorem test_add_reads_pc_plus_8 : after svc 0xE28F2004 (fun t => t.reg 2) = some 0x800C := by decide +kernel

theorem test_movt_keeps_the_low_half :
    after (withRegs svc [(2, 0xBEEF)]) 0xE34D2EAD (fun t => t.reg 2) = some 0xDEADBEEF := by decide +kernel

theorem test_mov_to_pc_branches : after (withRegs svc [(0, 0x3000)]) 0xE1A0F000 (fun t => t.pc) = some 0x3000 := by
  decide +kernel

theorem test_failed_condition : after svc 0x03A02001 (fun t => (t.reg 2, t.pc)) = some (0, 0x8004) := by decide +kernel

theorem test_muls_keeps_c_and_v :
    after { withRegs svc [(0, 0xFFFFFFFF), (1, 1)] with cpsr := 0x700001D3 } 0xE0120190 (fun t => (t.reg 2, t.cpsr))
      = some (0xFFFFFFFF, 0xB00001D3) := by decide +kernel

theorem test_umull :
    after (withRegs svc [(0, 0xFFFFFFFF), (1, 0xFFFFFFFF)]) 0xE0832190 (fun t => (t.reg 2, t.reg 3))
      = some (1, 0xFFFFFFFE) := by decide +kernel

theorem test_smlals_zero :
    after (withRegs svc [(0, 0xFFFFFFFF), (1, 1), (2, 1)]) 0xE0F32190 (fun t => (t.reg 2, t.reg 3, t.cpsr))
      = some (0, 0, 0x400001D3) := by decide +kernel

theorem test_sbfx_top_bit : after (withRegs svc [(1, 0x80000000)]) 0xE7A00FD1 (fun t => t.reg 0) = some 0xFFFFFFFF := by
  decide +kernel

theorem test_bfi_top_bit : after (withRegs svc [(1, 3)]) 0xE7DF0F91 (fun t => t.reg 0) = some 0x80000000 := by
  decide +kernel

theorem test_clz_of_zero : after svc 0xE16F0F11 (fun t => t.reg 0) = some 32 := by decide +kernel

theorem test_sxtab16_adds_in_lanes :
    after (withRegs svc [(1, 0x00010001), (2, 0x00FF00FF)]) 0xE6810072 (fun t => t.reg 0) = some 0 := by decide +kernel

theorem test_revsh_extends_the_sign :
    after (withRegs svc [(1, 0x80)]) 0xE6FF0FB1 (fun t => t.reg 0) = some 0xFFFF8000 := by decide +kernel

theorem test_ldr_pre_indexed :
    after (withMem (withRegs svc [(1, 0x1004)]) [(0x1000, 0xCAFEF00D)]) 0xE5310004 (fun t => (t.reg 0, t.reg 1))
      = some (0xCAFEF00D, 0x1000) := by decide +kernel

theorem test_ldr_unaligned_is_split :
    after (withMem (withRegs svc [(1, 0x1001)]) [(0x1000, 0x44332211), (0x1004, 0x88776655)]) 0xE5910000 (fun t => t.reg 0)
      = some 0x55443322 := by decide +kernel

theorem test_ldrsb_extends_the_sign :
    after (withMem (withRegs svc [(1, 0x1003)]) [(0x1000, 0xFF332211)]) 0xE1D100D0 (fun t => t.reg 0)
      = some 0xFFFFFFFF := by decide +kernel

theorem test_strh_stores_two_bytes :
    after (withMem (withRegs svc [(0, 0xAAAA5555), (1, 0x1000)]) [(0x1000, 0xFFFFFFFF)]) 0xE1C100B0 (fun t => word t 0x1000)
      = some 0xFFFF5555 := by decide +kernel

theorem test_str_of_pc : after (withRegs svc [(1, 0x1000)]) 0xE581F000 (fun t => word t 0x1000) = some 0x8008 := by
  decide +kernel

theorem test_strd_stores_both_words :
    after (withRegs svc [(1, 0x1000), (2, 1), (3, 2)]) 0xE1C120F8 (fun t => (word t 0x1008, word t 0x100C)) = some (1, 2) := by
  decide +kernel

theorem test_ldmda_writes_back :
    after (withMem (withRegs svc [(1, 0x1004)]) [(0x1000, 1), (0x1004, 2)]) 0xE8310005 (fun t => (t.reg 0, t.reg 2, t.reg 1))
      = some (1, 2, 0xFFC) := by decide +kernel

theorem test_pop_into_pc :
    after (withMem (withRegs svc [(13, 0x1000)]) [(0x1000, 7), (0x1004, 0x8004)]) 0xE8BD8010
      (fun t => (t.reg 4, t.reg 13, t.pc)) = some (7, 0x1008, 0x8004) := by decide +kernel

theorem test_stm_stores_the_original_base :
    after (withRegs svc [(1, 0x1000), (2, 0xB)]) 0xE8A10006 (fun t => (word t 0x1000, word t 0x1004, t.reg 1))
      = some (0x1000, 0xB, 0x1008) := by decide +kernel

theorem test_stm_base_not_lowest_halts :
    stops (withRegs svc [(2, 0x1000), (1, 0xA)]) 0xE8A20006 = some (.unpredictable .stmBaseNotLowest) := by decide +kernel

theorem test_bl_links : after svc 0xEB00003E (fun t => (t.pc, t.reg 14)) = some (0x8100, 0x8004) := by decide +kernel

theorem test_bx_to_thumb_halts : stops (withRegs svc [(0, 0x2001)]) 0xE12FFF10 = some (.notImplemented .thumb) := by
  decide +kernel

theorem test_msr_from_user_mode :
    after { withRegs usr [(0, 0xF00000DF)] with waiting := false } 0xE129F000 (fun t => t.cpsr) = some 0xF0000010 := by
  decide +kernel

theorem test_msr_bad_mode_halts : stops svc 0xE321F015 = some (.unpredictable .badMode) := by decide +kernel

theorem test_cpsid : after { svc with cpsr := 0x113 } 0xF10C00C0 (fun t => t.cpsr) = some 0x1D3 := by decide +kernel

theorem test_svc_entry :
    after { svc with cpsr := 0x600001D3 } 0xEF000000 (fun t => (t.pc, t.cpsr, t.reg 14, t.spsr.svc))
      = some (8, 0x600001D3, 0x8004, 0x600001D3) := by decide +kernel

theorem test_udf_entry :
    after svc 0xE7F000F0 (fun t => (t.pc, t.cpsr, t.reg 14, t.spsr.und)) = some (4, 0x1DB, 0x8004, 0x1D3) := by
  decide +kernel

theorem test_mcr_sctlr_keeps_fixed_bits :
    after (withRegs svc [(0, 0xFFFFFFFF)]) 0xEE010F10 (fun t => t.cp15.sctlr) = some 0x73E57C7F := by decide +kernel

theorem test_mrc_from_user_mode_traps :
    after usr 0xEE110F10 (fun t => (t.pc, t.cpsr, t.reg 14, t.spsr.und)) = some (4, 0x9B, 0x8004, 0x10) := by
  decide +kernel

theorem test_strex_fails_without_reservation :
    after (withMem (withRegs svc [(0, 5), (1, 0x1000)]) [(0x1000, 1)]) 0xE1813F90 (fun t => (t.reg 3, word t 0x1000))
      = some (1, 1) := by decide +kernel

theorem test_strex_stores_under_reservation :
    after { withMem (withRegs svc [(0, 5), (1, 0x1000)]) [(0x1000, 1)] with monitor := .exclusive 0x1000 } 0xE1813F90
      (fun t => (t.reg 3, word t 0x1000, t.monitor)) = some (0, 5, .idle) := by decide +kernel

theorem test_irq_is_taken_at_the_boundary :
    (match step { svc with cpsr := 0x153, irqPending := true } with
      | .next t => some (t.pc, t.cpsr, t.reg 14, t.spsr.irq, t.irqPending)
      | _ => none) = some (0x18, 0x1D2, 0x8004, 0x153, false) := by decide +kernel

theorem test_small_page :
    after (withRegs (mapped svc 1 [(0x4008, 0x5001), (0x500C, 0x123032), (0x123004, 0xABCD)]) [(1, 0x203000)]) 0xE5910004
      (fun t => t.reg 0) = some 0xABCD := by decide +kernel

theorem test_user_write_of_read_only_section :
    after (withRegs { mapped svc 1 [(0x4004, 0x100802)] with cpsr := 0x10 } [(1, 0x100000)]) 0xE5810000
      (fun t => (t.cp15.dfsr, t.cp15.dfar, t.cpsr, t.spsr.abt, t.pc)) = some (0x80D, 0x100000, 0x197, 0x10, 0x10) := by
  decide +kernel

theorem test_strt_is_checked_as_user :
    after (withRegs (mapped svc 1 [(0x4004, 0x100802)]) [(1, 0x100000)]) 0xE4A10000 (fun t => t.cp15.dfsr) = some 0x80D := by
  decide +kernel

theorem test_unaligned_ldm_faults :
    after (withRegs (withSctlr svc 0x00C5007A) [(1, 0x1002)]) 0xE8910001
      (fun t => (t.cp15.dfsr, t.cp15.dfar, t.reg 14, t.pc)) = some (1, 0x1002, 0x8008, 0x10) := by decide +kernel

theorem test_table_word : decodeTableWord 32 0xE1A00001 = some (decode 0xE1A00001) := by decide +kernel

theorem test_reset_runs_a_placed_instruction :
    (match step (State.reset.withFetchWord 32 0xE3A00001) with
      | .next t => some (t.reg 0, t.pc)
      | _ => none) = some (1, 4) := by decide +kernel

/-! ### Witnesses of the hypotheses of the statements -/

def okIs {α : Type} [DecidableEq α] (r : Res α) (v : α) (t : State) : Bool :=
  match r with
  | .ok a u => decide (a = v) && decide (u = t)
  | _ => false

theorem of_okIs {α : Type} [DecidableEq α] {r : Res α} {v : α} {t : State} (h : okIs r v t = true) : r = .ok v t := by
  cases r <;> simp_all [okIs]

def excIs {α : Type} (r : Res α) (e : Exc) (t : State) : Bool :=
  match r with
  | .exc f u => decide (f = e) && decide (u = t)
  | _ => false

theorem of_excIs {α : Type} {r : Res α} {e : Exc} {t : State} (h : excIs r e t = true) : r = .exc e t := by
  cases r <;> simp_all [excIs]

def haltIs {α : Type} (r : Res α) (f : Fault) : Bool :=
  match r with
  | .halt g => decide (g = f)
  | _ => false

theorem of_haltIs {α : Type} {r : Res α} {f : Fault} (h : haltIs r f = true) : r = .halt f := by
  cases r <;> simp_all [haltIs]

/-- The outcome is a next state in which the test holds. -/
def nextWith (o : Out) (p : State → Bool) : Bool :=
  match o with
  | .next t => p t
  | _ => false

theorem of_nextWith {o : Out} {p : State → Bool} (h : nextWith o p = true) : ∃ t, o = .next t ∧ p t = true := by
  cases o <;> simp_all [nextWith]

theorem of_next {o : Out} (h : nextWith o (fun _ => true) = true) : ∃ t, o = .next t :=
  (of_nextWith h).imp fun _ k => k.1

/-- Every instruction of the list runs in the state. -/
def allRun (l : List Instr) (s : State) : Bool := l.all fun i => !i.unpredictable && i.passes s

theorem of_allRun {l : List Instr} {s : State} (h : allRun l s = true) : ∀ i ∈ l, i.runs s := by
  intro i hi
  have := List.all_eq_true.mp h i hi
  simpa [Instr.runs] using this

theorem runs_of {i : Instr} {s : State} (h : (!i.unpredictable && i.passes s) = true) : i.runs s := by
  simpa [Instr.runs] using h

/-- A decidable fact of every element of a list. -/
theorem of_all {α : Type} {l : List α} {q : α → Prop} [DecidablePred q] (h : l.all (fun x => decide (q x)) = true) :
    ∀ x ∈ l, q x := fun x hx => of_decide_eq_true (List.all_eq_true.mp h x hx)

theorem witness_DecodeOfEncodeIsTheInstruction :
    ∃ i : Instr, i.wf = true ∧ i = .ldrImm { cond := 14, p := true, u := true, w := true, rn := 1, rt := 0, imm12 := 4 } :=
  ⟨_, by decide +kernel, rfl⟩

theorem witness_StepRunsTheDecodedInstruction :
    ∃ (s : State) (i : Instr) (pa : Word),
      s.halted = none ∧ s.waiting = false ∧ (s.fiqPending = true → psrF s.cpsr = true) ∧
      (s.irqPending = true → psrI s.cpsr = true) ∧ s.pcAligned = true ∧ s.translate s.pc fetchAccess = .pa pa ∧
      let byte := s.portByte (fetchAccess.reading .bytes s.pc)
      decodeBytes [byte pa, byte (pa + 1), byte (pa + 2), byte (pa + 3)] = .ok (i, []) :=
  ⟨{ withMem svc [(0x8000, 0xE3A00001)] with fiqPending := true, irqPending := true },
    .movImm { cond := 14, s := false, sbz19_16 := 0, rd := 0, imm12 := 1 }, 0x8000,
    by decide +kernel, by decide +kernel, by decide +kernel, by decide +kernel, by decide +kernel, by decide +kernel,
    congrArg (fun i => Except.ok (i, [])) (show decode (wordOfBytes _ _ _ _) = _ by decide +kernel)⟩

theorem witness_ResetHasTheInvariant :
    (∃ m : Memory, m.wf = true ∧ m.cells = []) ∧ ∃ m : Memory, m.wf = true ∧ m.cells = [(0, 1), (4294967295, 2)] :=
  ⟨⟨⟨[]⟩, by decide +kernel, rfl⟩, ⟨⟨[(0, 1), (4294967295, 2)]⟩, by decide +kernel, rfl⟩⟩

theorem witness_StepKeepsTheInvariant : ∃ s t : State, s.inv = true ∧ step s = .next t :=
  have ⟨t, h⟩ := of_next (o := step State.reset) (by decide +kernel)
  ⟨State.reset, t, by decide +kernel, h⟩

theorem witness_UserModeIsLeftOnlyByExceptionEntry :
    ∃ s t : State, s.privileged = false ∧ step s = .next t ∧ t.privileged = true :=
  have ⟨t, h, p⟩ := of_nextWith (o := step (withMem usr [(0x8000, 0xEF000000)])) (p := State.privileged) (by decide +kernel)
  ⟨_, t, by decide +kernel, h, p⟩

theorem witness_UserModeKeepsPrivilegedState :
    ∃ s t : State, s.privileged = false ∧ step s = .next t ∧ t.privileged = false :=
  have ⟨t, h, p⟩ := of_nextWith (o := step (withMem usr [(0x8000, 0xE3A00001)])) (p := fun t => !t.privileged)
    (by decide +kernel)
  ⟨_, t, by decide +kernel, h, by simpa using p⟩

theorem witness_OnlyStoresChangeMemory :
    ∃ (i : Instr) (s t : State), i.mayStore = false ∧ exec i s = .next t ∧ s.mem.cells ≠ [] :=
  have ⟨t, h⟩ := of_next (o := exec (decode 0xE3A00001) (withMem svc [(0x8000, 0xE3A00001)])) (by decide +kernel)
  ⟨decode 0xE3A00001, _, t, by decide +kernel, h, by decide +kernel⟩

theorem witness_InstructionsKeepTheLatches :
    (∃ i t, exec i svc = .next t ∧ (∀ o, i ≠ .wfi o) ∧ i.mayChangeMonitor = false) ∧ ∃ o t, exec (.wfi o) svc = .next t :=
  have ⟨t, h⟩ := of_next (o := exec (.movw ⟨14, 0, 0, 1⟩) svc) (by decide +kernel)
  have ⟨u, k⟩ := of_next (o := exec (.wfi ⟨14, 15, 0⟩) svc) (by decide +kernel)
  ⟨⟨_, t, h, by simp, rfl⟩, ⟨_, u, k⟩⟩

theorem witness_OnlyNamedFlagsChange :
    ∃ i t, exec i svc = .next t ∧ i = .addReg ⟨14, true, 0, 2, 0, 0, 1⟩ ∧ i.flagsWritten = 0xF0000000 :=
  have ⟨t, h⟩ := of_next (o := exec (.addReg ⟨14, true, 0, 2, 0, 0, 1⟩) svc) (by decide +kernel)
  ⟨_, t, h, rfl, by decide +kernel⟩

theorem witness_OnlyNamedInstructionsChangeSystemRegisters :
    (∃ i t, exec i svc = .next t ∧ (∀ o, i ≠ .mcrP15 o) ∧ i.writesSpsr = true) ∧ ∃ o t, exec (.mcrP15 o) svc = .next t :=
  have ⟨u, k⟩ := of_next (o := exec (.mcrP15 ⟨14, 0, 1, 0, 0, 0⟩) svc) (by decide +kernel)
  have ⟨v, l⟩ := of_next (o := exec (.msrReg ⟨14, true, 8, 15, 0, 0, 0⟩) svc) (by decide +kernel)
  ⟨⟨_, v, l, by simp, rfl⟩, ⟨_, u, k⟩⟩

theorem witness_FailedConditionOnlyAdvances :
    ∃ (i : Instr) (s : State), i.unpredictable = false ∧ i.passes s = false :=
  ⟨.movw ⟨0, 0, 0, 1⟩, svc, by decide +kernel, by decide +kernel⟩

theorem witness_UnpredictableEncodingsHalt :
    ∀ i ∈ [Instr.movw ⟨0, 0, 15, 1⟩, .bx ⟨14, 0xFFE, 0⟩, .mul ⟨14, false, 0, 1, 2, 3⟩, .ldm ⟨14, true, 1, 0⟩,
      .strex ⟨14, 1, 1, 15, 2⟩], i.unpredictable = true := by decide +kernel
theorem witness_ModesSeeTheirOwnRegisters :
    ∃ (s : State) (m : Mode) (i : Reg), i ≠ pcReg ∧ psrM s.cpsr = m.bits :=
  ⟨svc, .svc, 14, by decide +kernel, by decide +kernel⟩

theorem witness_MsrWritesUnderItsMask :
    (∃ (i : Instr) (mask : BitVec 4) (value : State → Word) (s : State), IsMsr i false mask value ∧ i.runs s ∧
      s.armState = true ∧ mask.getLsbD 0 = true ∧ s.privileged = true ∧ badMode (psrM (value s)) = true) ∧
    (∃ (i : Instr) (mask : BitVec 4) (value : State → Word) (s : State), IsMsr i false mask value ∧ i.runs s ∧
      s.armState = true ∧ mask.getLsbD 0 = true ∧ s.privileged = true ∧ badMode (psrM (value s)) = false) ∧
    (∃ (i : Instr) (mask : BitVec 4) (value : State → Word) (s : State), IsMsr i true mask value ∧ i.runs s ∧
      s.spsr.get s.mode = none) ∧
    (∃ (i : Instr) (mask : BitVec 4) (value : State → Word) (s : State) (old : Word), IsMsr i true mask value ∧ i.runs s ∧
      s.spsr.get s.mode = some old ∧ mask.getLsbD 0 = true ∧ badMode (psrM (value s)) = true) ∧
    (∃ (i : Instr) (mask : BitVec 4) (value : State → Word) (s : State) (old : Word), IsMsr i true mask value ∧ i.runs s ∧
      s.spsr.get s.mode = some old ∧ mask.getLsbD 0 = true ∧ badMode (psrM (value s)) = false) :=
  ⟨⟨.msrReg ⟨14, false, 1, 15, 0, 0, 0⟩, _, _, svc, .inl ⟨_, rfl, rfl, rfl, rfl⟩, runs_of (by decide +kernel),
      by decide +kernel, by decide +kernel, by decide +kernel, by decide +kernel⟩,
    ⟨.msrImm ⟨14, false, 1, 15, 0x1F⟩, _, _, svc, .inr ⟨_, rfl, rfl, rfl, rfl⟩, runs_of (by decide +kernel),
      by decide +kernel, by decide +kernel, by decide +kernel, by decide +kernel⟩,
    ⟨.msrReg ⟨14, true, 15, 15, 0, 0, 0⟩, _, _, usr, .inl ⟨_, rfl, rfl, rfl, rfl⟩, runs_of (by decide +kernel),
      by decide +kernel⟩,
    ⟨.msrReg ⟨14, true, 15, 15, 0, 0, 0⟩, _, _, svc, 0, .inl ⟨_, rfl, rfl, rfl, rfl⟩, runs_of (by decide +kernel),
      by decide +kernel, by decide +kernel, by decide +kernel⟩,
    ⟨.msrImm ⟨14, true, 1, 15, 0x10⟩, _, _, svc, 0, .inr ⟨_, rfl, rfl, rfl, rfl⟩, runs_of (by decide +kernel),
      by decide +kernel, by decide +kernel, by decide +kernel⟩⟩

theorem witness_MrsReadsAStatusRegister :
    (Instr.mrs ⟨14, false, 15, 0, 0, 0, 0⟩).runs svc ∧ (Instr.mrs ⟨14, true, 15, 0, 0, 0, 0⟩).runs usr ∧ usr.mode = .usr ∧
    (Instr.mrs ⟨14, true, 15, 0, 0, 0, 0⟩).runs svc ∧ svc.spsr.get svc.mode = some 0 :=
  ⟨runs_of (by decide +kernel), runs_of (by decide +kernel), by decide +kernel, runs_of (by decide +kernel), by decide +kernel⟩

theorem witness_CpsAndSetendChangeTheirFields :
    (∃ (o : CpsOp) (s : State), (Instr.cps o).runs s ∧ s.privileged = false) ∧
    (∃ (o : CpsOp) (s : State), (Instr.cps o).runs s ∧ s.privileged = true ∧ o.m = true ∧ badMode o.mode = true) ∧
    (∃ (o : CpsOp) (s : State), (Instr.cps o).runs s ∧ s.privileged = true ∧ o.m = false ∧
      badMode (psrM s.cpsr) = false ∧ s.armState = true) ∧
    (∃ (o : CpsOp) (s : State), (Instr.cps o).runs s ∧ s.privileged = true ∧ o.m = true ∧ badMode o.mode = false ∧
      s.armState = true) ∧
    (Instr.setend ⟨0, true, 0, 0⟩).runs svc :=
  ⟨⟨⟨2, false, 0, false, true, false, 0⟩, usr, runs_of (by decide +kernel), by decide +kernel⟩,
    ⟨⟨2, true, 0, false, true, false, 0x15⟩, svc, runs_of (by decide +kernel), by decide +kernel, rfl, by decide +kernel⟩,
    ⟨⟨3, false, 0, true, true, true, 0⟩, svc, runs_of (by decide +kernel), by decide +kernel, rfl, by decide +kernel,
      by decide +kernel⟩,
    ⟨⟨0, true, 0, false, false, false, 0x1F⟩, svc, runs_of (by decide +kernel), by decide +kernel, rfl, by decide +kernel,
      by decide +kernel⟩,
    runs_of (by decide +kernel)⟩

theorem witness_ExceptionEntry :
    (∃ s : State, s.cp15.sctlr.getLsbD 30 = true) ∧ ∃ s : State, s.cp15.sctlr.getLsbD 30 = false :=
  ⟨⟨withSctlr svc 0x40C50078, by decide +kernel⟩, ⟨svc, by decide +kernel⟩⟩

theorem witness_InterruptsAreAcceptedAtTheBoundary :
    (∃ s : State, s.halted = none ∧ s.waiting = false ∧ (s.fiqPending && !s.cpsr.getLsbD 6) = true) ∧
    (∃ s : State, s.halted = none ∧ s.waiting = false ∧ (s.fiqPending && !s.cpsr.getLsbD 6) = false ∧ s.fiqPending = true ∧
      (s.irqPending && !s.cpsr.getLsbD 7) = true) ∧
    ∃ s : State, s.halted = none ∧ s.waiting = false ∧ (s.fiqPending && !s.cpsr.getLsbD 6) = false ∧
      (s.irqPending && !s.cpsr.getLsbD 7) = false ∧ s.irqPending = true :=
  ⟨⟨{ usr with fiqPending := true, irqPending := true }, by decide +kernel⟩,
    ⟨{ svc with cpsr := 0x53, fiqPending := true, irqPending := true }, by decide +kernel⟩,
    ⟨{ svc with irqPending := true }, by decide +kernel⟩⟩

theorem witness_WaitForInterrupt :
    (Instr.wfi ⟨14, 15, 0⟩).runs svc ∧
    (∃ s : State, s.halted = none ∧ s.waiting = true ∧ (s.irqPending || s.fiqPending) = true) ∧
    (∃ s : State, s.halted = none ∧ s.waiting = true ∧ (s.irqPending || s.fiqPending) = false) ∧
    ∃ (s : State) (f : Fault), s.halted = some f :=
  ⟨runs_of (by decide +kernel), ⟨{ svc with waiting := true, irqPending := true }, by decide +kernel⟩,
    ⟨{ svc with waiting := true }, by decide +kernel⟩, ⟨{ svc with halted := some .simdOrVfp }, .simdOrVfp, rfl⟩⟩

theorem witness_UndefinedInstructionsTrap :
    (∀ i ∈ [Instr.udf ⟨0, 0, 0⟩, .hvc 0xE1400070, .mcrOther ⟨14, 0, true, 0, 14, 0, 0⟩, .cdp2 ⟨0, 1, 0, 0⟩],
      i.isUndefined = true ∧ i.passes svc = true ∧ i.passes (withSctlr svc 0x40C50078) = true) ∧
      svc.cp15.sctlr.getLsbD 30 = false ∧ (withSctlr svc 0x40C50078).cp15.sctlr.getLsbD 30 = true := by decide +kernel

theorem witness_SupervisorCallEntersSvcMode :
    ∃ (o : BranchOp) (s : State), conditionPassed o.cond s.cpsr = true ∧ s.cp15.sctlr.getLsbD 30 = false :=
  ⟨⟨1, 0⟩, usr, by decide +kernel⟩

theorem witness_FetchFaultsArePrefetchAborts :
    ∃ s u : State, (∀ t ∈ [s, u], t.halted = none ∧ t.waiting = false ∧ (t.fiqPending = true → psrF t.cpsr = true) ∧
      (t.irqPending = true → psrI t.cpsr = true) ∧ t.pcAligned = true) ∧
      s.translate s.pc fetchAccess = .abort (.prefetchAbort 0x100000 .translationSection) ∧
      u.translate u.pc fetchAccess = .halt (.notImplemented .supersection) :=
  ⟨{ mapped svc 1 [] with pc := 0x100000 }, { mapped svc 1 [(0x4004, 0x00140002)] with pc := 0x100000 },
    of_all (by decide +kernel), by decide +kernel, by decide +kernel⟩

/-- The instructions of an exception return and a branch in every form that may name the PC, by S. -/
def pcForms (s : Bool) : List Instr :=
  [DpOp.add.instr (.imm ⟨14, s, 14, 15, 0⟩), DpOp.sub.instr (.reg ⟨14, s, 14, 15, 0, 0, 0⟩), .movImm ⟨14, s, 0, 15, 0⟩,
    .mvnImm ⟨14, s, 0, 15, 3⟩, .movReg ⟨14, s, 0, 15, 14⟩, .rrx ⟨14, s, 0, 15, 14⟩, .lslImm ⟨14, s, 0, 15, 1, 14⟩,
    .lsrImm ⟨14, s, 0, 15, 0, 14⟩, .asrImm ⟨14, s, 0, 15, 31, 14⟩, .rorImm ⟨14, s, 0, 15, 4, 14⟩,
    .mvnReg ⟨14, s, 0, 15, 0, 0, 14⟩]

/-- SVC mode about to return to `lr` with the SPSR `spsr`. -/
def returning (spsr lr : Word) : State := withRegs { svc with spsr := { svc.spsr with svc := spsr } } [(14, lr)]

theorem witness_DataProcessingExceptionReturn :
    (∀ i ∈ pcForms true, i.runs svc) ∧ usr.spsr.get usr.mode = none ∧
    (∀ x ∈ [((0x10 : Word), (0x8002 : Word)), (0, 0x8004), (0x30, 0x8002), (0x410, 0x8004), (0x01000010, 0x8004), (0x10, 0x8004)],
      (returning x.1 x.2).spsr.get (returning x.1 x.2).mode = some x.1 ∧ (returning x.1 x.2).reg 14 = x.2) ∧
    badMode (psrM 0) = true ∧ psrT 0x30 = true ∧ (0x410 : Word) &&& itMask ≠ 0 ∧ psrJ 0x01000010 = true :=
  ⟨of_allRun (by decide +kernel), by decide +kernel, of_all (by decide +kernel), by decide +kernel⟩

theorem witness_ReturnUndoesExceptionEntry :
    ∃ (kind : ExcKind) (lr : Word) (n : BitVec 8) (s t : State), s.inv = true ∧ s.cp15.sctlr.getLsbD 27 = false ∧
      takeException kind lr s = .next t ∧ (lr - n.setWidth 32).extractLsb' 0 2 = 0 :=
  have ⟨t, h⟩ := of_next (o := takeException .irq 0x8008 usr) (by decide +kernel)
  ⟨.irq, 0x8008, 4, usr, t, by decide +kernel, by decide +kernel, h, by decide +kernel⟩

/-- A block of two words at 0x1000, the second of them the address 0x8004. -/
def twoWords (k : Nat) : Word := if k = 0 then 7 else 0x8004

/-- SVC mode with a block of r0 and the word `last` at 0x1000, and the SPSR `spsr`. -/
def returningBlock (spsr last : Word) : State :=
  withMem (withRegs { svc with spsr := { svc.spsr with svc := spsr } } [(13, 0x1000)]) [(0x1000, last), (0x1004, last)]

theorem witness_LdmExceptionReturn :
    (Instr.ldmExcReturn ⟨14, false, true, true, 13, 1⟩).runs usr ∧ usr.mode = .usr ∧
    ∀ x ∈ [((0x10 : Word), (0x8002 : Word)), (0, 0x8004), (0x30, 0x8002), (0x410, 0x8004), (0x01000010, 0x8004), (0x10, 0x8004)],
      let s := returningBlock x.1 x.2
      (Instr.ldmExcReturn ⟨14, false, true, true, 13, 1⟩).runs s ∧ s.spsr.get s.mode = some x.1 ∧
      s.readsBlock (blockFrom false true (s.reg 13) (listCount (1 : BitVec 15) + 1)) (listCount (1 : BitVec 15) + 1)
        fun _ => x.2 := by
  refine ⟨runs_of (by decide +kernel), by decide +kernel, fun x hx => ?_⟩
  have h := List.all_eq_true.mp (show [((0x10 : Word), (0x8002 : Word)), (0, 0x8004), (0x30, 0x8002), (0x410, 0x8004),
    (0x01000010, 0x8004), (0x10, 0x8004)].all (fun x =>
      let s := returningBlock x.1 x.2
      (!(Instr.ldmExcReturn ⟨14, false, true, true, 13, 1⟩).unpredictable
          && (Instr.ldmExcReturn ⟨14, false, true, true, 13, 1⟩).passes s) && decide (s.spsr.get s.mode = some x.1)
        && (List.range 2).all fun k => okIs (memRead (wordAt 0x1000 k) .word (readAccess false false) s) x.2 s)
      = true by decide +kernel) x hx
  rw [Bool.and_eq_true, Bool.and_eq_true, decide_eq_true_eq] at h
  refine ⟨runs_of h.1.1, h.1.2, fun k hk => ?_⟩
  have base : blockFrom false true ((returningBlock x.1 x.2).reg 13) (listCount (1 : BitVec 15) + 1) = 0x1000 := by
    simp only [List.mem_cons, List.not_mem_nil, or_false] at hx
    rcases hx with rfl | rfl | rfl | rfl | rfl | rfl <;> decide +kernel
  rw [base]
  exact of_okIs (List.all_eq_true.mp h.2 k (List.mem_range.mpr hk))

theorem witness_MemoryIsLittleEndianBytes :
    let x : Window := ⟨0x1000, 0x1003⟩
    let s : State := { State.reset with
      mem := ⟨[(0, 1), (4294967295, 2)]⟩, params := { Params.default with volatile := [x] } }
    s.memoryCanonical = true ∧ (∀ y ∈ s.params.volatile, y = x) ∧
    (∀ pa ∈ [(0xFFF : Word), 0x1004], ¬ (x.first ≤ pa ∧ pa ≤ x.last)) ∧
    ∀ pa ∈ [(0x1000 : Word), 0x1003], x.first ≤ pa ∧ pa ≤ x.last :=
  ⟨by decide +kernel, fun y h => List.mem_singleton.mp h, of_all (by decide +kernel), of_all (by decide +kernel)⟩

/-- One section at 0 and one small page at 0x203000, whose neighbours have no page. -/
def paged : State := mapped svc 1 [(0x4008, 0x5001), (0x500C, 0x123032)]

/-- The same page, whose upper neighbour is a large page, with the base r1 and r2 = 4. -/
def ragged (base : Word) : State :=
  withRegs (mapped svc 1 [(0x4008, 0x5001), (0x500C, 0x123032), (0x5010, 1)]) [(1, base), (2, 4)]

/-- Sections of domain 0: a supersection, a reserved permission, no access and read-only; page tables whose pages are a
large page and none; sections of domain 1. -/
def faulty (dacr : Word) : State :=
  mapped svc dacr [(0x4004, 0x00140002), (0x4008, 0x00108002), (0x400C, 0x00100002), (0x4010, 0x5001), (0x5004, 0x00001001),
    (0x4014, 0x00100C22), (0x4018, 0x00000003), (0x4020, 0x00100C12)]

/-- The memory after each byte of a split write. -/
def memories (s : State) (va v : Word) : Nat → Memory
  | 0 => s.mem
  | j + 1 =>
    match State.translate { s with mem := memories s va v j } (va + BitVec.ofNat 32 j) (writeAccess false true) with
    | .pa pa => (memories s va v j).write pa (v.extractLsb' (8 * j) 8)
    | _ => memories s va v j

/-- The translation answers an address. -/
def isPa : Xlat → Bool
  | .pa _ => true
  | _ => false

theorem bytesStored_of {s : State} {va v : Word} {k : Nat}
    (h : ((List.range k).all fun j =>
      isPa (State.translate { s with mem := memories s va v j } (va + BitVec.ofNat 32 j) (writeAccess false true))) = true) :
    s.bytesStored va (writeAccess false true) v k (memories s va v) := by
  refine ⟨rfl, fun j hj => ?_⟩
  have := List.all_eq_true.mp h j (List.mem_range.mpr hj)
  unfold isPa at this
  split at this
  · rename_i pa e
    exact ⟨pa, e, by simp [memories, e]⟩
  · cases this

theorem witness_AccessesFollowTheAlignmentRule :
    (∃ (s : State) (acc : Access), acc.fetch = false ∧ psrE s.cpsr = true) ∧
    (∃ (s : State) (va pa : Word) (acc : Access), psrE s.cpsr = false ∧ va.toNat % 4 = 0 ∧ s.translate va acc = .pa pa) ∧
    (∃ (s : State) (va pa : Word) (acc : Access), psrE s.cpsr = false ∧ va.toNat % 4 ≠ 0 ∧ acc.split = false ∧
      s.checkUnaligned = false ∧ s.translate va acc = .pa pa) ∧
    (∃ (s : State) (va : Word) (acc : Access), psrE s.cpsr = false ∧ va.toNat % 4 ≠ 0 ∧ acc.split = false ∧
      s.checkUnaligned = true) ∧
    (∃ (s : State) (va : Word) (acc : Access) (pas : Nat → Word), psrE s.cpsr = false ∧ va.toNat % 4 ≠ 0 ∧
      acc.split = true ∧ ∀ k, k < 4 → s.translate (va + BitVec.ofNat 32 k) acc = .pa (pas k)) ∧
    (∃ (s : State) (va : Word) (acc : Access) (k : Nat) (pas : Nat → Word) (e : Exc), psrE s.cpsr = false ∧
      va.toNat % 4 ≠ 0 ∧ acc.split = true ∧ k < 4 ∧ k = 3 ∧
      (∀ j, j < k → s.translate (va + BitVec.ofNat 32 j) acc = .pa (pas j)) ∧
      s.translate (va + BitVec.ofNat 32 k) acc = .abort e) ∧
    (∃ (s : State) (va : Word) (acc : Access), psrE s.cpsr = false ∧ va.toNat % 4 ≠ 0 ∧ acc.split = true ∧
      s.memoryCanonical = true ∧ s.mmuEnabled = false) ∧
    -- a split write of two bytes into a page and of the rest beyond it, and one that the page takes whole
    paged.bytesStored 0x203FFE (writeAccess false true) 0x44332211 2 (memories paged 0x203FFE 0x44332211) ∧
    State.translate { paged with mem := memories paged 0x203FFE 0x44332211 2 } (0x203FFE + 2) (writeAccess false true)
      = .abort (.dataAbort 0x204000 .translationPage true) ∧
    paged.bytesStored 0x203001 (writeAccess false true) 0x44332211 4 (memories paged 0x203001 0x44332211) ∧
    -- a split write whose third byte halts
    (ragged 0).bytesStored 0x203FFE (writeAccess false true) 0x44332211 2 (memories (ragged 0) 0x203FFE 0x44332211) ∧
    State.translate { ragged 0 with mem := memories (ragged 0) 0x203FFE 0x44332211 2 } (0x203FFE + 2) (writeAccess false true)
      = .halt (.notImplemented .largePage) :=
  ⟨⟨{ svc with cpsr := 0x3D3 }, readAccess false true, by decide +kernel⟩,
    ⟨paged, 0x203FFC, 0x123FFC, readAccess false true, by decide +kernel⟩,
    ⟨paged, 0x203FFE, 0x123FFE, readAccess false false, by decide +kernel⟩,
    ⟨withSctlr svc 0x00C5007A, 0x1001, writeAccess false false, by decide +kernel⟩,
    ⟨svc, 0xFFFFFFFF, readAccess false true, fun k => 0xFFFFFFFF + BitVec.ofNat 32 k, by decide +kernel⟩,
    ⟨paged, 0x203FFD, readAccess false true, 3, fun j => 0x123FFD + BitVec.ofNat 32 j, .dataAbort 0x204000 .translationPage false,
      by decide +kernel⟩,
    ⟨withMem svc [(0x1000, 1)], 0x1001, writeAccess false true, by decide +kernel⟩,
    bytesStored_of (by decide +kernel), by decide +kernel, bytesStored_of (by decide +kernel),
    bytesStored_of (by decide +kernel), by decide +kernel⟩

/-- Aligned and passed-through accesses whose translation aborts or halts, and split reads that halt at the third and at the
first byte. -/
theorem witness_AccessesFollowTheAlignmentRule_ends :
    psrE (ragged 0).cpsr = false ∧ (ragged 0).checkUnaligned = false ∧
    (∀ acc ∈ [readAccess false false, writeAccess true false, readAccess false true],
      (ragged 0).translate 0x204000 acc = .halt (.notImplemented .largePage) ∧
      (ragged 0).translate 0x205000 acc = .abort (.dataAbort 0x205000 .translationPage acc.write)) ∧
    (ragged 0).translate 0x204001 (readAccess false false) = .halt (.notImplemented .largePage) ∧
    (ragged 0).translate 0x205FFF (writeAccess false false) = .abort (.dataAbort 0x205FFF .translationPage true) ∧
    (∀ j, j < 2 → (ragged 0).translate (0x203FFE + BitVec.ofNat 32 j) (readAccess false true)
      = .pa (0x123FFE + BitVec.ofNat 32 j)) ∧
    (ragged 0).translate (0x203FFE + BitVec.ofNat 32 2) (readAccess false true) = .halt (.notImplemented .largePage) ∧
    (ragged 0).translate (0x204001 + BitVec.ofNat 32 0) (readAccess false true) = .halt (.notImplemented .largePage) :=
  ⟨by decide +kernel, by decide +kernel, of_all (by decide +kernel), by decide +kernel, by decide +kernel, by decide +kernel,
    by decide +kernel, by decide +kernel⟩

/-- The walk of an address under the table at 0x4000 with N = 0. -/
theorem walks_of {s : State} {acc : Access} {va d1 l1 : Word}
    (h : (s.mmuEnabled && !s.cp15.ttbcr.getLsbD 31 && !s.cp15.sctlr.getLsbD 29 && !s.cp15.ttbcr.getLsbD 4
      && !s.cp15.ttbcr.getLsbD 5 && s.splitWidth == 0
      && l1.toNat == s.cp15.ttbr0.toNat / 2 ^ 14 * 2 ^ 14 + va.toNat / 2 ^ 20 * 4
      && d1 == s.physRead (acc.reading .firstLevel va) l1 .word) = true) : s.walks acc va d1 := by
  simp only [Bool.and_eq_true, Bool.not_eq_true', beq_iff_eq] at h
  obtain ⟨⟨⟨⟨⟨⟨⟨h1, h2⟩, h3⟩, h4⟩, h5⟩, h6⟩, h7⟩, h8⟩ := h
  refine ⟨h1, h2, h3, fun _ => h4, fun _ => h5, l1, ⟨fun _ => ?_, fun k => absurd (.inl h6) k⟩, h8⟩
  simpa [h6] using h7

theorem witness_TranslationGivesTheMappedAddress :
    svc.mmuEnabled = false ∧
    (∃ (s : State) (va d1 : Word) (acc : Access), s.walks acc va d1 ∧ d1.extractLsb' 0 2 = 2 ∧ d1.getLsbD 18 = false ∧
      s.admits acc d1 (d1.getLsbD 15) (d1.extractLsb' 10 2) (d1.getLsbD 4)) ∧
    ∃ (s : State) (va d1 d2 : Word) (acc : Access), s.walks acc va d1 ∧ d1.extractLsb' 0 2 = 1 ∧ d2 = s.secondLevel acc va d1 ∧
      d2.getLsbD 1 = true ∧ s.admits acc d1 (d2.getLsbD 9) (d2.extractLsb' 4 2) (d2.getLsbD 0) :=
  ⟨by decide +kernel,
    ⟨paged, 0xFFFFF, 0xC02, fetchAccess, walks_of (l1 := 0x4000) (by decide +kernel), by decide +kernel, by decide +kernel,
      by unfold State.admits; decide +kernel⟩,
    ⟨paged, 0x203000, 0x5001, 0x123032, writeAccess false false, walks_of (l1 := 0x4008) (by decide +kernel),
      by decide +kernel, by decide +kernel, by decide +kernel, by unfold State.admits; decide +kernel⟩⟩

theorem witness_TranslationFaultsAndHalts :
    (∃ s : State, s.mmuEnabled = true ∧ s.cp15.ttbcr.getLsbD 31 = true) ∧
    (∃ s : State, s.mmuEnabled = true ∧ s.cp15.ttbcr.getLsbD 31 = false ∧ s.cp15.sctlr.getLsbD 29 = true) ∧
    (∃ s : State, s.mmuEnabled = true ∧ s.cp15.ttbcr.getLsbD 31 = false ∧ s.cp15.sctlr.getLsbD 29 = false ∧
      s.walksTtbr0 0 ∧ s.cp15.ttbcr.getLsbD 4 = true) ∧
    (∃ s : State, s.mmuEnabled = true ∧ s.cp15.ttbcr.getLsbD 31 = false ∧ s.cp15.sctlr.getLsbD 29 = false ∧
      ¬ s.walksTtbr0 0x80000000 ∧ s.cp15.ttbcr.getLsbD 5 = true) ∧
    ((faulty 1).walks (readAccess false false) 0x600000 3 ∧ (faulty 1).walks (readAccess false false) 0x700000 0 ∧ (faulty 1).walks (readAccess false false) 0x100000 0x00140002) ∧
    ((faulty 1).walks (readAccess false false) 0x500000 0x00100C22 ∧ (faulty 1).policyOf 0x00100C22 = 0) ∧
    ((faulty 2).walks (readAccess false false) 0x200000 0x00108002 ∧ (faulty 2).policyOf 0x00108002 = 2) ∧
    ((faulty 1).walks (readAccess false false) 0x300000 0x00100002 ∧ (faulty 1).policyOf 0x00100002 = 1 ∧ permission false 0 true true = .denied) ∧
    ((faulty 1).walks (readAccess false false) 0x200000 0x00108002 ∧ (faulty 1).policyOf 0x00108002 = 1 ∧ permission true 0 true true = .reserved) ∧
    (∃ s : State, s.walks fetchAccess 0x800000 0x00100C12 ∧ s.policyOf 0x00100C12 = 1 ∧ permission false 3 true false = .allowed ∧
      (fetchAccess.fetch && true && s.params.enforceXn) = true) ∧
    ((faulty 1).walks (readAccess false false) 0x400000 0x5001 ∧ (faulty 1).secondLevel (readAccess false false) 0x400000 0x5001 = 0 ∧
      (faulty 1).secondLevel (readAccess false false) 0x401000 0x5001 = 0x00001001) ∧
    (paged.walks (readAccess false false) 0x203000 0x5001 ∧ (paged.secondLevel (readAccess false false) 0x203000 0x5001).getLsbD 1 = true) :=
  ⟨⟨{ paged with cp15 := { paged.cp15 with ttbcr := 0x80000000 } }, by decide +kernel⟩,
    ⟨withSctlr paged 0x20C50079, by decide +kernel⟩,
    ⟨{ paged with cp15 := { paged.cp15 with ttbcr := 0x10 } }, by unfold State.walksTtbr0; decide +kernel⟩,
    ⟨{ paged with cp15 := { paged.cp15 with ttbcr := 0x21 } }, by unfold State.walksTtbr0; decide +kernel⟩,
    ⟨walks_of (l1 := 0x4018) (by decide +kernel), walks_of (l1 := 0x401C) (by decide +kernel),
      walks_of (l1 := 0x4004) (by decide +kernel)⟩,
    ⟨walks_of (l1 := 0x4014) (by decide +kernel), by decide +kernel⟩,
    ⟨walks_of (l1 := 0x4008) (by decide +kernel), by decide +kernel⟩,
    ⟨walks_of (l1 := 0x400C) (by decide +kernel), by decide +kernel⟩,
    ⟨walks_of (l1 := 0x4008) (by decide +kernel), by decide +kernel⟩,
    ⟨{ faulty 1 with params := { Params.default with enforceXn := true } }, walks_of (l1 := 0x4020) (by decide +kernel),
      by decide +kernel⟩,
    ⟨walks_of (l1 := 0x4010) (by decide +kernel), by decide +kernel⟩,
    ⟨walks_of (l1 := 0x4008) (by decide +kernel), by decide +kernel⟩⟩

theorem witness_UnprivilegedAccessesAreCheckedAsUser : ∃ w : Word, psrM w = 0b10000 := ⟨0xFFFFFFF0, by decide +kernel⟩

theorem witness_ShiftCarriesTheLastBitOut :
    ∀ p ∈ [((0 : Nat), (1 : Nat)), (31, 31), (31, 32), (0, 33), (31, 255)], p.1 < 32 ∧ 0 < p.2 := by decide

theorem witness_ShifterOperandForms : ∃ j : Nat, j < 32 ∧ j = 31 := ⟨31, by decide, rfl⟩

/-- The three forms of an operation with destination r2. -/
def dpForms (s : Bool) : List DpForm := [.imm ⟨14, s, 0, 2, 1⟩, .reg ⟨14, s, 0, 2, 0, 3, 1⟩, .rsr ⟨14, s, 0, 2, 3, 2, 1⟩]

theorem witness_DataProcessingResults :
    (∀ i ∈ [DpOp.and, .eor, .sub, .rsb, .add, .adc, .sbc, .rsc, .orr, .bic].flatMap
      (fun op => (dpForms true ++ dpForms false).map op.instr), i.runs svc) ∧
    ∀ f ∈ dpForms true ++ dpForms false, f.rd ≠ pcReg :=
  ⟨of_allRun (by decide +kernel), by decide +kernel⟩

theorem witness_CompareResults :
    ∀ i ∈ [CmpOp.tst, .teq, .cmp, .cmn].flatMap
      (fun op => [CmpForm.imm ⟨14, 0, 0, 1⟩, .reg ⟨14, 0, 0, 31, 1, 1⟩, .rsr ⟨14, 0, 0, 3, 0, 1⟩].map op.instr), i.runs svc :=
  of_allRun (by decide +kernel)

theorem witness_MoveAndShiftResults :
    ∀ i ∈ [Instr.movImm ⟨14, true, 0, 2, 0x4FF⟩, .mvnImm ⟨14, true, 0, 2, 0⟩, .movReg ⟨14, true, 0, 2, 1⟩,
      .rrx ⟨14, true, 0, 2, 1⟩, .lslImm ⟨14, true, 0, 2, 31, 1⟩, .lsrImm ⟨14, true, 0, 2, 0, 1⟩, .asrImm ⟨14, true, 0, 2, 0, 1⟩,
      .rorImm ⟨14, true, 0, 2, 1, 1⟩, .lslReg ⟨14, true, 0, 2, 3, 1⟩, .lsrReg ⟨14, true, 0, 2, 3, 1⟩,
      .asrReg ⟨14, true, 0, 2, 3, 1⟩, .rorReg ⟨14, true, 0, 2, 3, 1⟩, .mvnReg ⟨14, true, 0, 2, 0, 3, 1⟩,
      .mvnRsr ⟨14, true, 0, 2, 3, 3, 1⟩, .movw ⟨14, 15, 2, 0xFFF⟩, .movt ⟨14, 15, 2, 0xFFF⟩], i.runs svc :=
  of_allRun (by decide +kernel)

theorem witness_DataProcessingBranches :
    (∀ i ∈ pcForms false, i.runs svc) ∧
    (∃ s : State, (s.reg 14).getLsbD 0 = true) ∧
    (∃ s : State, (s.reg 14).getLsbD 0 = false ∧ (s.reg 14).getLsbD 1 = true) ∧
    ∃ s : State, (s.reg 14).getLsbD 0 = false ∧ (s.reg 14).getLsbD 1 = false :=
  ⟨of_allRun (by decide +kernel), ⟨withRegs svc [(14, 1)], by decide +kernel⟩, ⟨withRegs svc [(14, 2)], by decide +kernel⟩,
    ⟨withRegs svc [(14, 0x8004)], by decide +kernel⟩⟩

theorem witness_MultiplyResults :
    ∀ i ∈ [Instr.mul ⟨14, true, 2, 0, 1, 0⟩, .mla ⟨14, true, 2, 3, 1, 0⟩, .mls ⟨14, 2, 3, 1, 0⟩, .umull ⟨14, true, 3, 2, 1, 0⟩,
      .umlal ⟨14, true, 3, 2, 1, 0⟩, .smull ⟨14, true, 3, 2, 1, 0⟩, .smlal ⟨14, true, 3, 2, 1, 0⟩], i.runs svc :=
  of_allRun (by decide +kernel)

theorem witness_ExtendResults :
    ∀ i ∈ [Instr.sxtb ⟨14, 0, 3, 0, 1⟩, .sxth ⟨14, 0, 3, 0, 1⟩, .uxtb ⟨14, 0, 3, 0, 1⟩, .uxth ⟨14, 0, 3, 0, 1⟩,
      .sxtb16 ⟨14, 0, 3, 0, 1⟩, .uxtb16 ⟨14, 0, 3, 0, 1⟩, .sxtab ⟨14, 1, 0, 3, 0, 2⟩, .sxtah ⟨14, 1, 0, 3, 0, 2⟩,
      .uxtab ⟨14, 1, 0, 3, 0, 2⟩, .uxtah ⟨14, 1, 0, 3, 0, 2⟩, .sxtab16 ⟨14, 1, 0, 3, 0, 2⟩, .uxtab16 ⟨14, 1, 0, 3, 0, 2⟩],
      i.runs svc :=
  of_allRun (by decide +kernel)

theorem witness_BitfieldCountAndReverseResults :
    ∀ i ∈ [Instr.sbfx ⟨14, 31, 0, 0, 1⟩, .sbfx ⟨14, 0, 0, 31, 1⟩, .ubfx ⟨14, 31, 0, 0, 1⟩, .ubfx ⟨14, 0, 0, 31, 1⟩,
      .bfi ⟨14, 31, 0, 0, 1⟩, .bfi ⟨14, 31, 0, 31, 1⟩, .bfc ⟨14, 31, 0, 0⟩, .bfc ⟨14, 0, 0, 0⟩, .clz ⟨14, 15, 0, 15, 1⟩,
      .rev ⟨14, 15, 0, 15, 1⟩, .rev16 ⟨14, 15, 0, 15, 1⟩, .revsh ⟨14, 15, 0, 15, 1⟩], i.runs svc :=
  of_allRun (by decide +kernel)

/-- A state with data at 0x1000, r1 its base and r2 = 4 an offset. -/
def based : State :=
  withMem (withRegs svc [(1, 0x1000), (2, 4)]) [(0x0FFC, 0x88776655), (0x1000, 0x44332211), (0x1004, 0x8004)]

/-- The same with big-endian data (R102), whose every access halts. -/
def bigEndian : State := { based with cpsr := 0x3D3 }

/-- The same with an unmapped base. -/
def unmapped : State := withRegs (mapped svc 1 []) [(1, 0x100000), (2, 4)]

/-- The loads of one register, with their access. -/
def loads : List (Instr × Width × Access × AddrForm) :=
  let imm (w : Bool) : AddrForm := { p := true, u := true, w := w, rn := 1, offset := plainOffset 3 }
  let reg : AddrForm := { p := false, u := false, w := false, rn := 1, offset := shiftedOffset 2 0 0 }
  let split : AddrForm := { p := true, u := true, w := true, rn := 1, offset := splitOffset 0 1 }
  let rm : AddrForm := { p := true, u := true, w := false, rn := 1, offset := fun s => s.reg 2 }
  [(.ldrImm ⟨14, true, true, true, 1, 0, 3⟩, .word, readAccess false true, imm true),
    (.ldrbImm ⟨14, true, true, true, 1, 0, 3⟩, .byte, readAccess false false, imm true),
    (.ldrReg ⟨14, false, false, false, 1, 0, 0, 0, 2⟩, .word, readAccess false true, reg),
    (.ldrbReg ⟨14, false, false, false, 1, 0, 0, 0, 2⟩, .byte, readAccess false false, reg),
    (.ldrhImm ⟨14, true, true, true, 1, 0, 0, 1⟩, .half, readAccess false true, split),
    (.ldrsbImm ⟨14, true, true, true, 1, 0, 0, 1⟩, .byte, readAccess false false, split),
    (.ldrshImm ⟨14, true, true, true, 1, 0, 0, 1⟩, .half, readAccess false true, split),
    (.ldrhReg ⟨14, true, true, false, 1, 0, 0, 2⟩, .half, readAccess false true, rm),
    (.ldrsbReg ⟨14, true, true, false, 1, 0, 0, 2⟩, .byte, readAccess false false, rm),
    (.ldrshReg ⟨14, true, true, false, 1, 0, 0, 2⟩, .half, readAccess false true, rm),
    (.ldrtImm ⟨14, true, 1, 0, 3⟩, .word, readAccess true true, unprivForm true 1 (plainOffset 3)),
    (.ldrbtImm ⟨14, true, 1, 0, 3⟩, .byte, readAccess true false, unprivForm true 1 (plainOffset 3)),
    (.ldrtReg ⟨14, true, 1, 0, 0, 0, 2⟩, .word, readAccess true true, unprivForm true 1 (shiftedOffset 2 0 0)),
    (.ldrbtReg ⟨14, true, 1, 0, 0, 0, 2⟩, .byte, readAccess true false, unprivForm true 1 (shiftedOffset 2 0 0)),
    (.ldrhtImm ⟨14, true, 1, 0, 0, 1⟩, .half, readAccess true true, unprivForm true 1 (splitOffset 0 1)),
    (.ldrsbtImm ⟨14, true, 1, 0, 0, 1⟩, .byte, readAccess true false, unprivForm true 1 (splitOffset 0 1)),
    (.ldrshtImm ⟨14, true, 1, 0, 0, 1⟩, .half, readAccess true true, unprivForm true 1 (splitOffset 0 1)),
    (.ldrhtReg ⟨14, true, 1, 0, 0, 2⟩, .half, readAccess true true, unprivForm true 1 fun s => s.reg 2),
    (.ldrsbtReg ⟨14, true, 1, 0, 0, 2⟩, .byte, readAccess true false, unprivForm true 1 fun s => s.reg 2),
    (.ldrshtReg ⟨14, true, 1, 0, 0, 2⟩, .half, readAccess true true, unprivForm true 1 fun s => s.reg 2)]

def answers {α : Type} (r : Res α) (s : State) : Bool :=
  match r with
  | .ok _ t => decide (t = s)
  | _ => false

theorem of_answers {α : Type} {r : Res α} {s : State} (h : answers r s = true) : ∃ v, r = .ok v s := by
  cases r <;> simp_all [answers]

/-- A data abort that leaves the state. -/
def aborts {α : Type} (r : Res α) (s : State) : Bool :=
  match r with
  | .exc (.dataAbort _ _ _) t => decide (t = s)
  | _ => false

theorem of_aborts {α : Type} {r : Res α} {s : State} (h : aborts r s = true) :
    ∃ va status write, r = .exc (.dataAbort va status write) s := by
  unfold aborts at h
  split at h
  · rename_i va status write t
    exact ⟨va, status, write, by simp_all⟩
  · cases h

theorem witness_LoadResults :
    ∀ x ∈ loads, x.1.runs based ∧ x.1.runs unmapped ∧
      (∃ data, memRead (x.2.2.2.address based) x.2.1 x.2.2.1 based = .ok data based) ∧
      ∃ va status write, memRead (x.2.2.2.address unmapped) x.2.1 x.2.2.1 unmapped
        = .exc (.dataAbort va status write) unmapped := by
  intro x hx
  have h := List.all_eq_true.mp (show loads.all (fun x =>
    (!x.1.unpredictable && x.1.passes based) && (!x.1.unpredictable && x.1.passes unmapped)
      && answers (memRead (x.2.2.2.address based) x.2.1 x.2.2.1 based) based
      && aborts (memRead (x.2.2.2.address unmapped) x.2.1 x.2.2.1 unmapped) unmapped) = true by decide +kernel) x hx
  simp only [Bool.and_eq_true] at h
  exact ⟨runs_of (by simp [h.1.1.1]), runs_of (by simp [h.1.1.2]), of_answers h.1.2, of_aborts h.2⟩

/-- A load of each kind whose read halts. -/
theorem witness_LoadResults_halts :
    ∀ x ∈ loads, x.1.runs bigEndian ∧
      memRead (x.2.2.2.address bigEndian) x.2.1 x.2.2.1 bigEndian = .halt (.notImplemented .bigEndian) := by
  intro x hx
  have h := List.all_eq_true.mp (show loads.all (fun x => (!x.1.unpredictable && x.1.passes bigEndian)
    && haltIs (memRead (x.2.2.2.address bigEndian) x.2.1 x.2.2.1 bigEndian) (.notImplemented .bigEndian)) = true
      by decide +kernel) x hx
  rw [Bool.and_eq_true] at h
  exact ⟨runs_of h.1, of_haltIs h.2⟩

/-- A load into the PC whose read halts. -/
theorem witness_LoadIntoThePcBranches_halts :
    (Instr.ldrImm ⟨14, true, true, true, 1, 15, 0⟩).runs bigEndian ∧
    memRead (bigEndian.reg 1) .word (readAccess false true) bigEndian = .halt (.notImplemented .bigEndian) :=
  ⟨runs_of (by decide +kernel), of_haltIs (by decide +kernel)⟩

theorem witness_LoadIntoThePcBranches :
    let a (n : BitVec 12) : AddrForm := { p := true, u := true, w := true, rn := 1, offset := plainOffset n }
    let s : State := withMem (withRegs svc [(1, 0x1000)]) [(0x1000, 1), (0x1004, 2), (0x1008, 0x8004)]
    (∀ n ∈ [(0 : BitVec 12), 4, 8, 9], (Instr.ldrImm ⟨14, true, true, true, 1, 15, n⟩).runs s) ∧
    (Instr.ldrReg ⟨14, true, true, false, 1, 15, 0, 0, 2⟩).runs s ∧
    (memRead ((a 0).address s) .word (readAccess false true) s = .ok 1 s ∧ ((a 0).address s).extractLsb' 0 2 = 0) ∧
    (memRead ((a 4).address s) .word (readAccess false true) s = .ok 2 s ∧ ((a 4).address s).extractLsb' 0 2 = 0) ∧
    (memRead ((a 8).address s) .word (readAccess false true) s = .ok 0x8004 s ∧ ((a 8).address s).extractLsb' 0 2 = 0) ∧
    (memRead ((a 9).address s) .word (readAccess false true) s = .ok 0x80 s ∧ ((a 9).address s).extractLsb' 0 2 ≠ 0) ∧
    (Instr.ldrImm ⟨14, true, true, true, 1, 15, 0⟩).runs unmapped ∧
    ∃ va status write, memRead ((a 0).address unmapped) .word (readAccess false true) unmapped
      = .exc (.dataAbort va status write) unmapped :=
  ⟨fun n hn => of_allRun (l := [Instr.ldrImm ⟨14, true, true, true, 1, 15, n⟩])
      (by simp only [List.mem_cons, List.not_mem_nil, or_false] at hn; rcases hn with rfl | rfl | rfl | rfl <;> decide +kernel) _
      (by simp),
    runs_of (by decide +kernel), ⟨of_okIs (by decide +kernel), by decide +kernel⟩,
    ⟨of_okIs (by decide +kernel), by decide +kernel⟩, ⟨of_okIs (by decide +kernel), by decide +kernel⟩,
    ⟨of_okIs (by decide +kernel), by decide +kernel⟩, runs_of (by decide +kernel), of_aborts (by decide +kernel)⟩

/-- The stores of one register, with their access. -/
def stores : List (Instr × Width × Access × AddrForm) :=
  let imm (w : Bool) : AddrForm := { p := true, u := true, w := w, rn := 1, offset := plainOffset 3 }
  let reg : AddrForm := { p := false, u := false, w := false, rn := 1, offset := shiftedOffset 2 0 0 }
  let split : AddrForm := { p := true, u := true, w := true, rn := 1, offset := splitOffset 0 1 }
  let rm : AddrForm := { p := true, u := true, w := false, rn := 1, offset := fun s => s.reg 2 }
  [(.strImm ⟨14, true, true, true, 1, 2, 3⟩, .word, writeAccess false true, imm true),
    (.strbImm ⟨14, true, true, true, 1, 2, 3⟩, .byte, writeAccess false false, imm true),
    (.strReg ⟨14, false, false, false, 1, 15, 0, 0, 2⟩, .word, writeAccess false true, reg),
    (.strbReg ⟨14, false, false, false, 1, 2, 0, 0, 2⟩, .byte, writeAccess false false, reg),
    (.strhImm ⟨14, true, true, true, 1, 2, 0, 1⟩, .half, writeAccess false true, split),
    (.strhReg ⟨14, true, true, false, 1, 2, 0, 2⟩, .half, writeAccess false true, rm),
    (.strtImm ⟨14, true, 1, 2, 3⟩, .word, writeAccess true true, unprivForm true 1 (plainOffset 3)),
    (.strbtImm ⟨14, true, 1, 2, 3⟩, .byte, writeAccess true false, unprivForm true 1 (plainOffset 3)),
    (.strtReg ⟨14, true, 1, 2, 0, 0, 2⟩, .word, writeAccess true true, unprivForm true 1 (shiftedOffset 2 0 0)),
    (.strbtReg ⟨14, true, 1, 2, 0, 0, 2⟩, .byte, writeAccess true false, unprivForm true 1 (shiftedOffset 2 0 0)),
    (.strhtImm ⟨14, true, 1, 2, 0, 1⟩, .half, writeAccess true true, unprivForm true 1 (splitOffset 0 1)),
    (.strhtReg ⟨14, true, 1, 2, 0, 2⟩, .half, writeAccess true true, unprivForm true 1 fun s => s.reg 2)]

/-- The write answers, whatever it changes. -/
def writes (r : Res Unit) : Bool :=
  match r with
  | .ok () _ => true
  | _ => false

theorem of_writes {r : Res Unit} (h : writes r = true) : ∃ t, r = .ok () t := by
  cases r <;> simp_all [writes]

theorem reaches_of {s : State} {va : Word} {w : Width} {acc : Access}
    (h : (!psrE s.cpsr && !s.mmuEnabled && (acc.split || va.toNat % w.bytes == 0)) = true) : s.reaches va w acc va := by
  simp only [Bool.and_eq_true, Bool.not_eq_true', Bool.or_eq_true, beq_iff_eq] at h
  refine ⟨h.1.1, ?_⟩
  rcases h.2 with k | k
  · exact .inr ⟨k, h.1.2, rfl⟩
  · exact .inl ⟨.inl k, by simp [State.translate, h.1.2]⟩

theorem witness_StoreResults :
    ∀ x ∈ stores, x.1.runs based ∧ x.1.runs unmapped ∧
      (∃ t, memWrite (x.2.2.2.address based) x.2.1 (based.reg 2) x.2.2.1 based = .ok () t) ∧
      (based.memoryCanonical = true ∧ based.reaches (x.2.2.2.address based) x.2.1 x.2.2.1 (x.2.2.2.address based)) ∧
      ∃ va status write, memWrite (x.2.2.2.address unmapped) x.2.1 (unmapped.reg 2) x.2.2.1 unmapped
        = .exc (.dataAbort va status write) unmapped := by
  intro x hx
  have h := List.all_eq_true.mp (show stores.all (fun x =>
    (!x.1.unpredictable && x.1.passes based) && (!x.1.unpredictable && x.1.passes unmapped)
      && writes (memWrite (x.2.2.2.address based) x.2.1 (based.reg 2) x.2.2.1 based)
      && (!psrE based.cpsr && !based.mmuEnabled && (x.2.2.1.split || (x.2.2.2.address based).toNat % x.2.1.bytes == 0))
      && aborts (memWrite (x.2.2.2.address unmapped) x.2.1 (unmapped.reg 2) x.2.2.1 unmapped) unmapped) = true
      by decide +kernel) x hx
  simp only [Bool.and_eq_true] at h
  exact ⟨runs_of (by simp [h.1.1.1.1]), runs_of (by simp [h.1.1.1.2]), of_writes h.1.1.2,
    ⟨by decide +kernel, reaches_of (by simp only [Bool.and_eq_true]; exact h.1.2)⟩, of_aborts h.2⟩

/-- A split store that the page takes whole, and one whose first byte it takes. -/
theorem witness_StoreResults_split :
    (∀ va ∈ [(0x203FF1 : Word), 0x203FFF],
      (Instr.strImm ⟨14, true, true, false, 1, 2, 0⟩).runs (withRegs paged [(1, va), (2, 4)]) ∧ va.toNat % 4 ≠ 0) ∧
    (withRegs paged [(1, 0x203FF1), (2, 4)]).bytesStored 0x203FF1 (writeAccess false true) 4 4
      (memories (withRegs paged [(1, 0x203FF1), (2, 4)]) 0x203FF1 4) ∧
    (withRegs paged [(1, 0x203FFF), (2, 4)]).bytesStored 0x203FFF (writeAccess false true) 4 1
      (memories (withRegs paged [(1, 0x203FFF), (2, 4)]) 0x203FFF 4) ∧
    State.translate { withRegs paged [(1, 0x203FFF), (2, 4)] with mem := memories (withRegs paged [(1, 0x203FFF), (2, 4)]) 0x203FFF 4 1 }
      (0x203FFF + 1) (writeAccess false true) = .abort (.dataAbort 0x204000 .translationPage true) := by
  refine ⟨fun va hva => ?_, bytesStored_of (by decide +kernel), bytesStored_of (by decide +kernel), by decide +kernel⟩
  simp only [List.mem_cons, List.not_mem_nil, or_false] at hva
  rcases hva with rfl | rfl <;> exact ⟨runs_of (by decide +kernel), by decide⟩

/-- A store that aborts on its second byte, with its first byte stored. -/
theorem witness_StoreResults_partial :
    ∃ (s t : State) (va : Word) (status : FaultStatus) (write : Bool),
      (Instr.strImm ⟨14, true, true, false, 1, 2, 0⟩).runs s ∧
      memWrite (s.reg 1) .word (s.reg 2) (writeAccess false true) s = .exc (.dataAbort va status write) t ∧
      t.mem.read 0x123FFF = 4 :=
  ⟨withRegs paged [(1, 0x203FFF), (2, 4)], (withRegs paged [(1, 0x203FFF), (2, 4)]).physWrite 0x123FFF .byte 4, 0x204000,
    .translationPage, true, runs_of (by decide +kernel), of_excIs (by decide +kernel), by decide +kernel⟩

/-- A store of each kind whose write halts, and a split store that halts at its second byte. -/
theorem witness_StoreResults_halts :
    (∀ x ∈ stores, x.1.runs bigEndian ∧
      memWrite (x.2.2.2.address bigEndian) x.2.1 (bigEndian.reg 2) x.2.2.1 bigEndian = .halt (.notImplemented .bigEndian)) ∧
    let s : State := ragged 0x203FFF
    (Instr.strImm ⟨14, true, true, false, 1, 2, 0⟩).runs s ∧
    s.bytesStored 0x203FFF (writeAccess false true) 4 1 (memories s 0x203FFF 4) ∧
    State.translate { s with mem := memories s 0x203FFF 4 1 } (0x203FFF + 1) (writeAccess false true)
      = .halt (.notImplemented .largePage) := by
  refine ⟨fun x hx => ?_, runs_of (by decide +kernel), bytesStored_of (by decide +kernel), by decide +kernel⟩
  have h := List.all_eq_true.mp (show stores.all (fun x => (!x.1.unpredictable && x.1.passes bigEndian)
    && haltIs (memWrite (x.2.2.2.address bigEndian) x.2.1 (bigEndian.reg 2) x.2.2.1 bigEndian) (.notImplemented .bigEndian))
      = true by decide +kernel) x hx
  rw [Bool.and_eq_true] at h
  exact ⟨runs_of h.1, of_haltIs h.2⟩

/-- LDRD and STRD of which the first and of which the second access halts. -/
theorem witness_DualTransferResults_halts :
    let ld : Instr := .ldrdImm ⟨14, true, true, true, 1, 2, 0, 0⟩
    let st : Instr := .strdImm ⟨14, true, true, true, 1, 2, 0, 0⟩
    let s : State := ragged 0x203FFC
    let t : State := { s with mem := s.mem.writeBytes 0x123FFC 4 4 }
    (∀ i ∈ [ld, st], i.runs bigEndian) ∧ (∀ i ∈ [ld, st], i.runs s) ∧
    memRead (bigEndian.reg 1) .word (readAccess false false) bigEndian = .halt (.notImplemented .bigEndian) ∧
    memWrite (bigEndian.reg 1) .word (bigEndian.reg 2) (writeAccess false false) bigEndian = .halt (.notImplemented .bigEndian) ∧
    memRead (s.reg 1) .word (readAccess false false) s = .ok 0 s ∧
    memRead (s.reg 1 + 4) .word (readAccess false false) s = .halt (.notImplemented .largePage) ∧
    (s.memoryCanonical = true ∧ s.reaches (s.reg 1) .word (writeAccess false false) 0x123FFC) ∧
    memWrite (s.reg 1 + 4) .word (s.reg 3) (writeAccess false false) t = .halt (.notImplemented .largePage) :=
  ⟨of_allRun (by decide +kernel), of_allRun (by decide +kernel), of_haltIs (by decide +kernel), of_haltIs (by decide +kernel),
    of_okIs (by decide +kernel), of_haltIs (by decide +kernel),
    ⟨by decide +kernel, by unfold State.reaches; decide +kernel⟩, of_haltIs (by decide +kernel)⟩

theorem witness_DualTransferResults :
    let a : AddrForm := { p := true, u := true, w := true, rn := 1, offset := splitOffset 0 0 }
    let ld : Instr := .ldrdImm ⟨14, true, true, true, 1, 2, 0, 0⟩
    let st : Instr := .strdImm ⟨14, true, true, true, 1, 2, 0, 0⟩
    let edge : State := withMem (withRegs paged [(1, 0x203FFC), (2, 4)]) [(0x123FFC, 7)]
    (∀ i ∈ [ld, st, .ldrdReg ⟨14, true, true, false, 1, 2, 0, 4⟩, .strdReg ⟨14, true, true, false, 1, 2, 0, 4⟩], i.runs based) ∧
    (memRead (a.address based) .word (readAccess false false) based = .ok 0x44332211 based ∧
      memRead (a.address based + 4) .word (readAccess false false) based = .ok 0x8004 based) ∧
    (ld.runs unmapped ∧ ∃ va status write, memRead (a.address unmapped) .word (readAccess false false) unmapped
      = .exc (.dataAbort va status write) unmapped) ∧
    (ld.runs edge ∧ memRead (a.address edge) .word (readAccess false false) edge = .ok 7 edge ∧
      ∃ va status write, memRead (a.address edge + 4) .word (readAccess false false) edge
        = .exc (.dataAbort va status write) edge) ∧
    (based.memoryCanonical = true ∧ based.reaches (a.address based) .word (writeAccess false false) 0x1000 ∧
      State.reaches { based with mem := based.mem.writeBytes 0x1000 4 (based.reg 2) } (a.address based + 4) .word
        (writeAccess false false) 0x1004) ∧
    (st.runs edge ∧ edge.memoryCanonical = true ∧ edge.reaches (a.address edge) .word (writeAccess false false) 0x123FFC ∧
      ∃ va status write,
        memWrite (a.address edge + 4) .word (edge.reg 3) (writeAccess false false)
          { edge with mem := edge.mem.writeBytes 0x123FFC 4 (edge.reg 2) }
          = .exc (.dataAbort va status write) { edge with mem := edge.mem.writeBytes 0x123FFC 4 (edge.reg 2) }) ∧
    (st.runs unmapped ∧ ∃ va status write,
      memWrite (a.address unmapped) .word (unmapped.reg 2) (writeAccess false false) unmapped
        = .exc (.dataAbort va status write) unmapped) :=
  ⟨of_allRun (by decide +kernel), ⟨of_okIs (by decide +kernel), of_okIs (by decide +kernel)⟩,
    ⟨runs_of (by decide +kernel), of_aborts (by decide +kernel)⟩,
    ⟨runs_of (by decide +kernel), of_okIs (by decide +kernel), of_aborts (by decide +kernel)⟩,
    ⟨by decide +kernel, by unfold State.reaches; decide +kernel, by unfold State.reaches; decide +kernel⟩,
    ⟨runs_of (by decide +kernel), by decide +kernel, by unfold State.reaches; decide +kernel, of_aborts (by decide +kernel)⟩,
    ⟨runs_of (by decide +kernel), of_aborts (by decide +kernel)⟩⟩

/-- Two readable words from `start`. -/
theorem readsBlock_two {s : State} {start : Word} {value : Nat → Word}
    (h : (okIs (memRead (wordAt start 0) .word (readAccess false false) s) (value 0) s
      && okIs (memRead (wordAt start 1) .word (readAccess false false) s) (value 1) s) = true) :
    s.readsBlock start 2 value := by
  simp only [Bool.and_eq_true] at h
  intro k hk
  have : k = 0 ∨ k = 1 := by omega
  rcases this with rfl | rfl
  · exact of_okIs h.1
  · exact of_okIs h.2

/-- The four loads of r4 and the PC from a block of two words, with P and U and the base r1. -/
def blockLoads (w : Bool) (registers : BitVec 16) : List (Instr × Bool × Bool) :=
  [(.ldm ⟨14, w, 1, registers⟩, false, true), (.ldmda ⟨14, w, 1, registers⟩, false, false),
    (.ldmdb ⟨14, w, 1, registers⟩, true, false), (.ldmib ⟨14, w, 1, registers⟩, true, true)]

/-- A state whose words around 0x1000 are all `v`, with r1 in their middle. -/
def block (v : Word) : State :=
  withMem (withRegs svc [(1, 0x1000)]) [(0xFF8, v), (0xFFC, v), (0x1000, v), (0x1004, v), (0x1008, v)]

theorem readsBlock_of_block {p u : Bool} {registers : BitVec 16} {v : Word}
    (h : (okIs (memRead (wordAt (blockFrom p u ((block v).reg 1) (listCount registers)) 0) .word (readAccess false false)
        (block v)) v (block v)
      && okIs (memRead (wordAt (blockFrom p u ((block v).reg 1) (listCount registers)) 1) .word (readAccess false false)
        (block v)) v (block v) && listCount registers == 2) = true) :
    (block v).readsBlock (blockFrom p u ((block v).reg 1) (listCount registers)) (listCount registers) fun _ => v := by
  simp only [Bool.and_eq_true, beq_iff_eq] at h
  obtain ⟨⟨h0, h1⟩, hc⟩ := h
  have k := readsBlock_two (value := fun _ => v) (by rw [h0, h1]; rfl)
  exact fun n hn => k n (by omega)

theorem witness_LoadMultipleResults :
    (∀ x ∈ blockLoads true 0x30, x.1.runs (block 7) ∧ (0x30 : BitVec 16).getLsbD 15 = false ∧
      (block 7).readsBlock (blockFrom x.2.1 x.2.2 ((block 7).reg 1) (listCount (0x30 : BitVec 16)))
        (listCount (0x30 : BitVec 16)) fun _ => 7) ∧
    (∀ v ∈ [(0x8004 : Word), 0x8005, 0x8006], ∀ x ∈ blockLoads false 0x8010, x.1.runs (block v) ∧
      (block v).readsBlock (blockFrom x.2.1 x.2.2 ((block v).reg 1) (listCount (0x8010 : BitVec 16)))
        (listCount (0x8010 : BitVec 16)) fun _ => v) := by
  constructor
  · intro x hx
    simp only [blockLoads, List.mem_cons, List.not_mem_nil, or_false] at hx
    rcases hx with rfl | rfl | rfl | rfl <;>
      exact ⟨runs_of (by decide +kernel), by decide, readsBlock_of_block (by decide +kernel)⟩
  · intro v hv x hx
    simp only [blockLoads, List.mem_cons, List.not_mem_nil, or_false] at hx hv
    rcases hv with rfl | rfl | rfl <;> rcases hx with rfl | rfl | rfl | rfl <;>
      exact ⟨runs_of (by decide +kernel), readsBlock_of_block (by decide +kernel)⟩

/-- The four stores of r1, r2 and the PC with the base r1. -/
def blockStores : List (Instr × Bool × Bool) :=
  [(.stm ⟨14, true, 1, 0x8006⟩, false, true), (.stmda ⟨14, true, 1, 0x8006⟩, false, false),
    (.stmdb ⟨14, true, 1, 0x8006⟩, true, false), (.stmib ⟨14, true, 1, 0x8006⟩, true, true)]

theorem witness_StoreMultipleResults :
    ∀ x ∈ blockStores, x.1.runs based ∧
      (∃ t, storeList based.mode (registerList (0x8006 : BitVec 16))
        (blockFrom x.2.1 x.2.2 (based.reg 1) (listCount (0x8006 : BitVec 16))) based = .ok () t) ∧
      based.memoryCanonical = true ∧
      based.plainBlock (blockFrom x.2.1 x.2.2 (based.reg 1) (listCount (0x8006 : BitVec 16))) := by
  intro x hx
  simp only [blockStores, List.mem_cons, List.not_mem_nil, or_false] at hx
  rcases hx with rfl | rfl | rfl | rfl <;>
    exact ⟨runs_of (by decide +kernel), of_writes (by decide +kernel), by decide +kernel,
      by unfold State.plainBlock; decide +kernel⟩

/-- r1 and r2 stored from the page's end, the memory after the first word and after both. -/
def twoStores (s : State) (pa : Word) (j : Nat) : Memory :=
  match j with
  | 0 => s.mem
  | 1 => s.mem.writeBytes pa 4 (s.reg 1)
  | _ => (s.mem.writeBytes pa 4 (s.reg 1)).writeBytes (pa + 4) 4 (s.reg 2)

/-- `paged` with its base r1 at a word of the page. -/
def pagedAt (base : Word) : State := withRegs paged [(1, base), (2, 0x44332211)]

/-- A block store of r1 and r2 of which the page takes both words, and one of which it takes only the first. -/
theorem witness_StoreMultipleResults_translated :
    (∀ i ∈ [Instr.stm ⟨14, true, 1, 6⟩, .stmUser ⟨14, false, true, 0, 1, 6⟩], i.runs (pagedAt 0x203FF8) ∧ i.runs (pagedAt 0x203FFC)) ∧
    listCount (6 : BitVec 16) = 2 ∧
    (∀ m ∈ [Mode.svc, .usr], (pagedAt 0x203FF8).wordsStored m 6 0x203FF8 2 (twoStores (pagedAt 0x203FF8) 0x123FF8) ∧
      (pagedAt 0x203FFC).wordsStored m 6 0x203FFC 1 (twoStores (pagedAt 0x203FFC) 0x123FFC)) ∧
    listRank (6 : BitVec 16) 2 = 1 ∧
    let s : State := { pagedAt 0x203FFC with mem := twoStores (pagedAt 0x203FFC) 0x123FFC 1 }
    memWrite (wordAt 0x203FFC 1) .word 0x44332211 (writeAccess false false) s
      = .exc (.dataAbort 0x204000 .translationPage true) s := by
  refine ⟨fun i hi => ⟨of_allRun (l := [.stm ⟨14, true, 1, 6⟩, .stmUser ⟨14, false, true, 0, 1, 6⟩]) (by decide +kernel) i hi,
    of_allRun (l := [.stm ⟨14, true, 1, 6⟩, .stmUser ⟨14, false, true, 0, 1, 6⟩]) (by decide +kernel) i hi⟩, by decide,
    fun m hm => ⟨⟨rfl, fun r hr hk => ⟨wordAt 0x123FF8 (listRank (6 : BitVec 16) r.toNat), ?_⟩⟩,
      ⟨rfl, fun r hr hk => ⟨wordAt 0x123FFC (listRank (6 : BitVec 16) r.toNat), ?_⟩⟩⟩, by decide, of_excIs (by decide +kernel)⟩ <;>
  · unfold State.reaches
    revert m r
    decide +kernel

/-- A block store of either kind whose first and whose second word halts. -/
theorem witness_StoreMultipleResults_halts :
    let l : List Instr := [.stm ⟨14, true, 1, 6⟩, .stmUser ⟨14, false, true, 0, 1, 6⟩]
    let s : State := ragged 0x203FFC
    let t : State := { s with mem := twoStores s 0x123FFC 1 }
    (∀ i ∈ l, i.runs bigEndian) ∧ (∀ i ∈ l, i.runs s) ∧ s.mode ≠ .usr ∧ s.mode ≠ .sys ∧
    (∀ m ∈ [Mode.svc, .usr], bigEndian.wordsStored m 6 0x1000 0 (fun _ => bigEndian.mem)) ∧
    listRank (6 : BitVec 16) 1 = 0 ∧ listRank (6 : BitVec 16) 2 = 1 ∧
    memWrite (wordAt 0x1000 0) .word 0x1000 (writeAccess false false) { bigEndian with mem := bigEndian.mem }
      = .halt (.notImplemented .bigEndian) ∧
    (∀ m ∈ [Mode.svc, .usr], s.wordsStored m 6 0x203FFC 1 (twoStores s 0x123FFC)) ∧
    memWrite (wordAt 0x203FFC 1) .word 4 (writeAccess false false) t = .halt (.notImplemented .largePage) := by
  refine ⟨of_allRun (by decide +kernel), of_allRun (by decide +kernel), by decide +kernel, by decide +kernel,
    fun m _ => ⟨rfl, fun r _ hk => absurd hk (Nat.not_lt_zero _)⟩, by decide, by decide, of_haltIs (by decide +kernel),
    fun m hm => ⟨rfl, fun r hr hk => ⟨wordAt 0x123FFC (listRank (6 : BitVec 16) r.toNat), ?_⟩⟩, of_haltIs (by decide +kernel)⟩
  unfold State.reaches
  revert m r
  decide +kernel

/-- A block load of each kind whose first and whose last word halts. -/
theorem witness_LoadMultipleResults_halts :
    let s : State := ragged 0x203FFC
    (∀ x ∈ blockLoads false 0x8010, x.1.runs bigEndian ∧ 0 < listCount (0x8010 : BitVec 16) ∧
      memRead (wordAt (blockFrom x.2.1 x.2.2 (bigEndian.reg 1) (listCount (0x8010 : BitVec 16))) 0) .word
        (readAccess false false) bigEndian = .halt (.notImplemented .bigEndian)) ∧
    (∀ i ∈ [Instr.ldm ⟨14, false, 1, 0x8010⟩, .ldmExcReturn ⟨14, false, true, true, 1, 4⟩, .ldmUser ⟨14, false, true, 0, 1, 6⟩],
      i.runs s) ∧
    s.mode ≠ .usr ∧ s.mode ≠ .sys ∧ (∀ n, blockFrom false true (s.reg 1) n = 0x203FFC) ∧
    s.readsBlock 0x203FFC 1 (fun _ => 0) ∧
    memRead (wordAt 0x203FFC 1) .word (readAccess false false) s = .halt (.notImplemented .largePage) := by
  refine ⟨fun x hx => ?_, of_allRun (by decide +kernel), by decide +kernel, by decide +kernel,
    fun _ => show State.reg _ 1 = _ by decide +kernel, fun k hk => ?_, of_haltIs (by decide +kernel)⟩
  · simp only [blockLoads, List.mem_cons, List.not_mem_nil, or_false] at hx
    rcases hx with rfl | rfl | rfl | rfl <;>
      exact ⟨runs_of (by decide +kernel), by decide, of_haltIs (by decide +kernel)⟩
  · have : k = 0 := by omega
    subst this
    exact of_okIs (by decide +kernel)

theorem witness_UserRegisterTransfers :
    let ld : LdmUserOp := ⟨14, false, true, 0, 1, 0x6000⟩
    let st : StmUserOp := ⟨14, false, true, 0, 1, 0x6000⟩
    ((Instr.ldmUser ld).runs usr ∧ (Instr.stmUser st).runs usr ∧ usr.mode = .usr) ∧
    ((Instr.ldmUser ld).runs (block 7) ∧ (block 7).mode ≠ .usr ∧ (block 7).mode ≠ .sys ∧
      (block 7).readsBlock (blockFrom false true ((block 7).reg 1) (listCount (0x6000 : BitVec 15)))
        (listCount (0x6000 : BitVec 15)) fun _ => 7) ∧
    ((Instr.stmUser st).runs based ∧ based.mode ≠ .usr ∧ based.mode ≠ .sys ∧
      (∃ t, storeList .usr (registerList (0x6000 : BitVec 16))
        (blockFrom false true (based.reg 1) (listCount (0x6000 : BitVec 16))) based = .ok () t) ∧
      based.memoryCanonical = true ∧
      based.plainBlock (blockFrom false true (based.reg 1) (listCount (0x6000 : BitVec 16)))) :=
  ⟨⟨runs_of (by decide +kernel), runs_of (by decide +kernel), by decide +kernel⟩,
    ⟨runs_of (by decide +kernel), by decide +kernel, by decide +kernel, readsBlock_two (by decide +kernel)⟩,
    ⟨runs_of (by decide +kernel), by decide +kernel, by decide +kernel, of_writes (by decide +kernel), by decide +kernel,
      by unfold State.plainBlock; decide +kernel⟩⟩

/-- An abort of the last of two words, its base in the list, for the three kinds of LDM. -/
theorem witness_AbortedLoadMultipleKeepsItsBase :
    let s : State := withMem (withRegs paged [(1, 0x203FFC)]) [(0x123FFC, 7)]
    (∀ i ∈ [Instr.ldm ⟨14, false, 1, 6⟩, .ldmExcReturn ⟨14, false, true, true, 1, 4⟩, .ldmUser ⟨14, false, true, 0, 1, 6⟩],
      i.runs s) ∧
    1 < listCount (6 : BitVec 16) ∧ 1 < listCount (4 : BitVec 15) + 1 ∧ 1 < listCount (6 : BitVec 15) ∧
    s.mode ≠ .usr ∧ s.mode ≠ .sys ∧ (∀ n, blockFrom false true (s.reg 1) n = 0x203FFC) ∧
    s.readsBlock 0x203FFC 1 (fun _ => 7) ∧
    memRead (wordAt 0x203FFC 1) .word (readAccess false false) s = .exc (.dataAbort 0x204000 .translationPage false) s ∧
    s.cp15.sctlr.getLsbD 30 = false ∧
    let te : State := withSctlr (withRegs s [(1, 0x204000)]) 0x40C50079
    (Instr.ldm ⟨14, false, 1, 6⟩).runs te ∧ (∀ n, blockFrom false true (te.reg 1) n = 0x204000) ∧
    te.readsBlock 0x204000 0 (fun _ => 0) ∧ te.cp15.sctlr.getLsbD 30 = true ∧
    memRead (wordAt 0x204000 0) .word (readAccess false false) te = .exc (.dataAbort 0x204000 .translationPage false) te :=
  ⟨of_allRun (by decide +kernel), by decide, by decide, by decide, by decide +kernel, by decide +kernel,
    fun _ => show State.reg _ 1 = _ by decide +kernel, fun k hk => by
      have : k = 0 := by omega
      subst this
      exact of_okIs (by decide +kernel),
    of_excIs (by decide +kernel), by decide +kernel, runs_of (by decide +kernel),
    fun _ => show State.reg _ 1 = _ by decide +kernel, fun _ h => absurd h (Nat.not_lt_zero _), by decide +kernel,
    of_excIs (by decide +kernel)⟩

/-- LDREX and STREX whose translation halts. -/
theorem witness_ExclusiveAccessResults_halts :
    let s : State := ragged 0x204000
    (∀ i ∈ [Instr.ldrex ⟨14, 1, 0, 15, 15⟩, .strex ⟨14, 1, 3, 15, 2⟩], i.runs s) ∧
    memRead (s.reg 1) .word (readAccess false false) s = .halt (.notImplemented .largePage) ∧
    s.translate (s.reg 1) (writeAccess false false) = .halt (.notImplemented .largePage) :=
  ⟨of_allRun (by decide +kernel), of_haltIs (by decide +kernel), by decide +kernel⟩

theorem witness_ExclusiveAccessResults :
    let ld : LdrexOp := ⟨14, 1, 0, 15, 15⟩
    let st : StrexOp := ⟨14, 1, 3, 15, 2⟩
    let held : State := { based with monitor := .exclusive 0x1000 }
    ((Instr.ldrex ld).runs based ∧ memRead (based.reg 1) .word (readAccess false false) based = .ok 0x44332211 based ∧
      based.translate (based.reg 1) (readAccess false false) = .pa 0x1000) ∧
    ((Instr.ldrex ld).runs unmapped ∧ ∃ va status write,
      memRead (unmapped.reg 1) .word (readAccess false false) unmapped = .exc (.dataAbort va status write) unmapped) ∧
    ((Instr.strex st).runs based ∧ based.translate (based.reg 1) (writeAccess false false) = .pa 0x1000 ∧
      based.monitor ≠ .exclusive 0x1000) ∧
    ((Instr.strex st).runs held ∧ held.memoryCanonical = true ∧
      held.reaches (held.reg 1) .word (writeAccess false false) 0x1000 ∧ held.monitor = .exclusive 0x1000) ∧
    (∀ s ∈ [{ held with cpsr := 0x3D3 },
        { withRegs (withSctlr held 0x00C5007A) [(1, 0x1002)] with monitor := .exclusive 0x1002 }],
      (Instr.strex st).runs s ∧ s.translate (s.reg 1) (writeAccess false false) = .pa (s.reg 1) ∧
      s.monitor = .exclusive (s.reg 1) ∧ (psrE s.cpsr = true ∨ ((s.reg 1).toNat % 4 ≠ 0 ∧ s.checkUnaligned = true))) ∧
    ((Instr.strex st).runs unmapped ∧ unmapped.translate (unmapped.reg 1) (writeAccess false false)
      = .abort (.dataAbort 0x100000 .translationSection true)) ∧
    (Instr.clrex ⟨255, 0, 15⟩).runs svc :=
  ⟨⟨runs_of (by decide +kernel), of_okIs (by decide +kernel), by decide +kernel⟩,
    ⟨runs_of (by decide +kernel), of_aborts (by decide +kernel)⟩,
    ⟨runs_of (by decide +kernel), by decide +kernel, by decide +kernel⟩,
    ⟨runs_of (by decide +kernel), by decide +kernel, by unfold State.reaches; decide +kernel, by decide +kernel⟩,
    by unfold Instr.runs; decide +kernel,
    ⟨runs_of (by decide +kernel), by decide +kernel⟩, runs_of (by decide +kernel)⟩

/-- The row of a key of the map is this one, with this access class. -/
def hasRow (o : Cp15Op) (name : Cp15Name) (access : AccessClass) : Bool :=
  match cp15Lookup { crn := o.crn, opc1 := o.opc1, crm := o.crm, opc2 := o.opc2 } with
  | some row => decide (row.name = name) && decide (row.access = access)
  | none => false

theorem witness_Cp15Transfers :
    -- r0 to and from p15: no register, MIDR, SCTLR, TPIDRURW, TPIDRURO, a barrier and a maintenance operation
    let none1 : Cp15Op := ⟨14, 7, 15, 0, 7, 15⟩
    let midr : Cp15Op := ⟨14, 0, 0, 0, 0, 0⟩
    let sctlr : Cp15Op := ⟨14, 0, 1, 0, 0, 0⟩
    let rw0 : Cp15Op := ⟨14, 0, 13, 0, 2, 0⟩
    let ro0 : Cp15Op := ⟨14, 0, 13, 0, 3, 0⟩
    let dsb : Cp15Op := ⟨14, 0, 7, 0, 4, 10⟩
    let iciallu : Cp15Op := ⟨14, 0, 7, 0, 0, 5⟩
    (∀ o ∈ [none1, midr, sctlr, rw0, ro0, dsb, iciallu],
      (Instr.mcrP15 o).runs svc ∧ (Instr.mrcP15 o).runs svc ∧ (Instr.mcrP15 o).runs usr ∧ (Instr.mrcP15 o).runs usr) ∧
    cp15Lookup { crn := 15, opc1 := 7, crm := 15, opc2 := 7 } = none ∧
    hasRow midr .midr .ro1 ∧ hasRow sctlr .sctlr .rw1 ∧ hasRow rw0 .tpidrurw .rw0 ∧ hasRow ro0 .tpidruro .ro0w1 ∧
    hasRow dsb (.barrier .dsb) .wo0 ∧ hasRow iciallu (.maintenance .iciAllU) .wo1 ∧
    svc.privileged = true ∧ usr.privileged = false ∧ svc.cp15.sctlr.getLsbD 5 = true ∧
    (withSctlr usr 0x00C50058).cp15.sctlr.getLsbD 5 = false ∧ (Instr.mrcP15 ⟨14, 0, 1, 15, 0, 0⟩).runs svc := by
  intro none1 midr sctlr rw0 ro0 dsb iciallu
  have runs (o : Cp15Op) (h : allRun [.mcrP15 o, .mrcP15 o] svc && allRun [.mcrP15 o, .mrcP15 o] usr) :
      (Instr.mcrP15 o).runs svc ∧ (Instr.mrcP15 o).runs svc ∧ (Instr.mcrP15 o).runs usr ∧ (Instr.mrcP15 o).runs usr := by
    rw [Bool.and_eq_true] at h
    exact ⟨of_allRun h.1 _ (by simp), of_allRun h.1 _ (by simp), of_allRun h.2 _ (by simp), of_allRun h.2 _ (by simp)⟩
  refine ⟨fun o ho => runs o ?_, ?_⟩
  · revert o
    decide +kernel
  · unfold Instr.runs
    decide +kernel

theorem witness_Cp15WritesReadBack :
    readBack true .sctlr 0 = some 0x08C50058 ∧ readBack false .midr 1 = none ∧ Cp15Name.ttbr0 ≠ .csselr ∧
    Cp15Name.csselr ≠ .ccsidr := by decide +kernel

theorem witness_BranchResults :
    (∀ i ∈ [Instr.b ⟨14, 0x800000⟩, .bl ⟨14, 0x7FFFFF⟩, .bx ⟨14, 0xFFF, 14⟩, .bxj ⟨14, 0xFFF, 14⟩, .blxReg ⟨14, 0xFFF, 14⟩],
      i.runs svc) ∧
    (∃ s : State, (s.reg 14).getLsbD 0 = true) ∧
    (∃ s : State, (s.reg 14).getLsbD 0 = false ∧ (s.reg 14).getLsbD 1 = true) ∧
    ∃ s : State, (s.reg 14).getLsbD 0 = false ∧ (s.reg 14).getLsbD 1 = false :=
  ⟨of_allRun (by decide +kernel), ⟨withRegs svc [(14, 1)], by decide +kernel⟩, ⟨withRegs svc [(14, 2)], by decide +kernel⟩,
    ⟨withRegs svc [(14, 0x8004)], by decide +kernel⟩⟩

theorem witness_HintsAndBarriersOnlyAdvance :
    ∀ i ∈ [Instr.nop ⟨14, 15, 0⟩, .yield ⟨14, 15, 0⟩, .wfe ⟨14, 15, 0⟩, .sev ⟨14, 15, 0⟩, .dbg ⟨14, 15, 0, 5⟩,
      .hintUnallocated ⟨14, 15, 0, 5⟩, .dmb ⟨255, 0, 15⟩, .dsb ⟨255, 0, 15⟩, .isb ⟨255, 0, 15⟩, .pldImm ⟨true, 15, 15, 64⟩,
      .pldReg ⟨true, 0, 15, 0, 0, 1⟩, .pldwImm ⟨true, 0, 15, 64⟩, .pldwReg ⟨true, 0, 15, 0, 0, 1⟩, .pliImm ⟨true, 15, 15, 64⟩,
      .pliReg ⟨true, 0, 15, 0, 0, 1⟩, .memHintImm 0xF410F000, .memHintReg 0xF610F000],
      i.hasNoEffect = true ∧ i.runs svc := by
  intro i hi
  have h := List.all_eq_true.mp (show [Instr.nop ⟨14, 15, 0⟩, .yield ⟨14, 15, 0⟩, .wfe ⟨14, 15, 0⟩, .sev ⟨14, 15, 0⟩,
    .dbg ⟨14, 15, 0, 5⟩, .hintUnallocated ⟨14, 15, 0, 5⟩, .dmb ⟨255, 0, 15⟩, .dsb ⟨255, 0, 15⟩, .isb ⟨255, 0, 15⟩,
    .pldImm ⟨true, 15, 15, 64⟩, .pldReg ⟨true, 0, 15, 0, 0, 1⟩, .pldwImm ⟨true, 0, 15, 64⟩, .pldwReg ⟨true, 0, 15, 0, 0, 1⟩,
    .pliImm ⟨true, 15, 15, 64⟩, .pliReg ⟨true, 0, 15, 0, 0, 1⟩, .memHintImm 0xF410F000, .memHintReg 0xF610F000].all
    (fun i => i.hasNoEffect && (!i.unpredictable && i.passes svc)) = true by decide +kernel) i hi
  rw [Bool.and_eq_true] at h
  exact ⟨h.1, runs_of h.2⟩

theorem witness_UnimplementedRowsHalt :
    Instr.unpredictable (.qadd ⟨14, 0, 1, 0, 0, 2⟩) = false ∧ Instr.unpredictable (.swp ⟨14, false, 2, 0, 0, 1⟩) = false ∧
    Instr.unpredictable (.smc ⟨14, 0, 0⟩) = false := by decide +kernel

end Sys2Proof.Tests
end

section
/-! SUPPORT. What no instruction changes, said once for each body, and the four shapes that an instruction's meaning has, said
once for each instruction (`Instr.hasMeaning`). Obligations O14 and O4 (spec/00_scope.md) are short uses of it. -/

namespace Sys2Proof.Machine

/-! ### What no instruction touches -/

/-- R6, R540, R5: the parameters, the interrupt latches and the terminal state of `t` are those of `s`. -/
structure State.KeepsInputs (s t : State) : Prop where
  params : t.params = s.params
  irqPending : t.irqPending = s.irqPending
  fiqPending : t.fiqPending = s.fiqPending
  halted : t.halted = s.halted

theorem State.KeepsInputs.refl (s : State) : s.KeepsInputs s := ⟨rfl, rfl, rfl, rfl⟩

theorem State.KeepsInputs.trans {s t u : State} (h : s.KeepsInputs t) (h' : t.KeepsInputs u) : s.KeepsInputs u :=
  ⟨h'.params.trans h.params, h'.irqPending.trans h.irqPending, h'.fiqPending.trans h.fiqPending, h'.halted.trans h.halted⟩

/-- The same with the later part first, for an earlier part that is one record update. -/
theorem State.KeepsInputs.after {s t u : State} (h' : t.KeepsInputs u) (h : s.KeepsInputs t) : s.KeepsInputs u := h.trans h'

theorem State.LoadedFrom.keepsInputs {s t : State} (h : s.LoadedFrom t) : s.KeepsInputs t := by
  obtain ⟨c, d, pb, rfl, -⟩ := h
  exact ⟨rfl, rfl, rfl, rfl⟩

theorem State.StoredBackFrom.keepsInputs {s t : State} (h : s.StoredBackFrom t) : s.KeepsInputs t := by
  obtain ⟨c, m, rfl, -⟩ := h
  exact ⟨rfl, rfl, rfl, rfl⟩

theorem State.KeepsInputs.setRmode {s t : State} (h : s.KeepsInputs t) (m : Mode) (i : Reg) (v : Word) :
    s.KeepsInputs (t.setRmode m i v) := h.trans (t.setRmode_loaded m i v).keepsInputs

theorem State.setReg_keepsInputs (s : State) (i : Reg) (v : Word) : s.KeepsInputs (s.setReg i v) :=
  (s.setReg_loaded i v).keepsInputs

theorem State.mulFlags_keepsInputs (s : State) (sf n z : Bool) : s.KeepsInputs (s.mulFlags sf n z) :=
  ⟨by simp, by simp, by simp, by simp⟩

theorem State.enter_keepsInputs (s : State) (k : ExcKind) (lr : Word) : s.KeepsInputs (s.enter k lr) :=
  ⟨by simp, by simp, by simp, by simp⟩

/-- R530 to R533: the entry of an exception keeps the inputs, whether or not the fault recorder wrote first. -/
theorem raise_keepsInputs {e : Exc} {s t : State} (h : raise e s = .next t) : s.KeepsInputs t := by
  obtain ⟨-, rfl⟩ | ⟨-, rfl⟩ | ⟨va, st, wr, -, rfl⟩ | ⟨va, st, -, rfl⟩ := raise_next h
  · exact s.enter_keepsInputs _ _
  · exact s.enter_keepsInputs _ _
  · exact ((s.setMemoryAbort va st wr).enter_keepsInputs _ _).after ⟨rfl, rfl, rfl, rfl⟩
  · exact ((s.setMemoryAbort va st false).enter_keepsInputs _ _).after ⟨rfl, rfl, rfl, rfl⟩

theorem finish_keepsInputs {r : Res Unit} {s t : State} (hr : r.Leads s.KeepsInputs) (h : finish r = .next t) :
    s.KeepsInputs t := by
  obtain ⟨u, rfl, rfl⟩ | ⟨e, u, rfl, he⟩ := finish_next h
  · exact State.KeepsInputs.trans (t := u) hr ⟨rfl, rfl, rfl, rfl⟩
  · exact State.KeepsInputs.trans (t := u) hr (raise_keepsInputs he)

/-- R13, R43: an instruction whose body keeps the inputs keeps them, its condition passed or failed. -/
theorem runInstr_keepsInputs {cond : Cond} {cases : List (Bool × Unpred)} {body : State → Res Unit} {s t : State}
    (hbody : ∀ s, (body s).Leads s.KeepsInputs) (h : runInstr cond cases s body = .next t) : s.KeepsInputs t := by
  obtain ⟨-, ⟨-, rfl⟩ | ⟨-, hf⟩⟩ := runInstr_next h
  · exact ⟨rfl, rfl, rfl, rfl⟩
  · exact (finish_keepsInputs (hbody _) hf).after ⟨rfl, rfl, rfl, rfl⟩

/-! ### The bodies keep the inputs -/

/-- A body that raises no exception leaves only the state it ends well in. -/
theorem Res.leads_of_ok {r : Res Unit} {P : State → Prop} (hok : ∀ t, r = .ok () t → P t)
    (hexc : ∀ e t, r ≠ .exc e t) : r.Leads P := by
  cases r with
  | ok a t => exact hok t rfl
  | exc e t => exact absurd rfl (hexc e t)
  | halt f => trivial

theorem bxWritePC_keepsInputs (a : Word) (s : State) : (bxWritePC a s).Leads s.KeepsInputs :=
  (bxWritePC_leads a s).mono fun _ => State.LoadedFrom.keepsInputs

theorem cpsrWriteByInstr_keepsInputs (value : Word) (mask : BitVec 4) (ex : Bool) (s : State) :
    (cpsrWriteByInstr value mask ex s).Leads s.KeepsInputs := by
  refine Res.leads_of_ok (fun t ht => ?_) fun e t => cpsrWriteByInstr_not_exc
  obtain ⟨rfl, -, -⟩ := cpsrWriteByInstr_ok ht
  exact ⟨rfl, rfl, rfl, rfl⟩

theorem spsrWriteByInstr_keepsInputs (value : Word) (mask : BitVec 4) (s : State) :
    (spsrWriteByInstr value mask s).Leads s.KeepsInputs := by
  refine Res.leads_of_ok (fun t ht => ?_) fun e t => spsrWriteByInstr_not_exc
  obtain ⟨old, -, rfl⟩ := spsrWriteByInstr_ok ht
  exact ⟨rfl, rfl, rfl, rfl⟩

theorem exceptionReturn_keepsInputs (target : Word) (s : State) : (exceptionReturn target s).Leads s.KeepsInputs := by
  refine Res.leads_of_ok (fun t ht => ?_) fun e t => exceptionReturn_not_exc
  obtain ⟨spsr, -, -, -, -, rfl⟩ := exceptionReturn_ok ht
  exact ⟨rfl, rfl, rfl, rfl⟩

theorem mrsBody_keepsInputs (r : Bool) (rd : Reg) (s : State) : (mrsBody r rd s).Leads s.KeepsInputs := by
  unfold mrsBody
  split
  · split
    · trivial
    · exact s.setReg_keepsInputs rd _
  · exact s.setReg_keepsInputs rd _

theorem msrBody_keepsInputs (r : Bool) (mask : BitVec 4) (value : Word) (s : State) :
    (msrBody r mask value s).Leads s.KeepsInputs := by
  unfold msrBody
  split
  · exact spsrWriteByInstr_keepsInputs value mask s
  · exact cpsrWriteByInstr_keepsInputs value mask false s

theorem writeDP_keepsInputs (rd : Reg) (sf : Bool) (result : Word) (c v : Bool) (s : State) :
    (writeDP rd sf result c v s).Leads s.KeepsInputs := by
  unfold writeDP
  split
  · split
    · exact exceptionReturn_keepsInputs result s
    · exact bxWritePC_keepsInputs result s
  · refine (s.setReg_keepsInputs rd result).trans ?_
    split
    · exact ⟨rfl, rfl, rfl, rfl⟩
    · exact .refl _

theorem mulWrite_keepsInputs (rd : Reg) (sf : Bool) (result : Word) (s : State) :
    (mulWrite rd sf result s).Leads s.KeepsInputs :=
  (s.setReg_keepsInputs rd result).trans (State.mulFlags_keepsInputs _ sf _ _)

theorem mulLongWrite_keepsInputs (rdHi rdLo : Reg) (sf : Bool) (result : BitVec 64) (s : State) :
    (mulLongWrite rdHi rdLo sf result s).Leads s.KeepsInputs :=
  ((s.setReg_keepsInputs rdHi _).trans (State.setReg_keepsInputs _ rdLo _)).trans (State.mulFlags_keepsInputs _ sf _ _)

theorem loadBody_keepsInputs (w : Width) (u sp : Bool) (ext : Word → Word) (ad : Addressing) (rn rt : Reg) (s : State) :
    (loadBody w u sp ext ad rn rt s).Leads s.KeepsInputs :=
  (loadBody_leads w u sp ext ad rn rt s).mono fun _ => State.LoadedFrom.keepsInputs

theorem loadWordBody_keepsInputs (ad : Addressing) (rn rt : Reg) (s : State) :
    (loadWordBody ad rn rt s).Leads s.KeepsInputs :=
  (loadWordBody_leads ad rn rt s).mono fun _ => State.LoadedFrom.keepsInputs

theorem loadDualBody_keepsInputs (ad : Addressing) (rn rt : Reg) (s : State) :
    (loadDualBody ad rn rt s).Leads s.KeepsInputs :=
  (loadDualBody_leads ad rn rt s).mono fun _ => State.LoadedFrom.keepsInputs

theorem storeBody_keepsInputs (w : Width) (u sp : Bool) (ad : Addressing) (rn rt : Reg) (s : State) :
    (storeBody w u sp ad rn rt s).Leads s.KeepsInputs :=
  (storeBody_leads w u sp ad rn rt s).mono fun _ => State.StoredBackFrom.keepsInputs

theorem storeDualBody_keepsInputs (ad : Addressing) (rn rt : Reg) (s : State) :
    (storeDualBody ad rn rt s).Leads s.KeepsInputs :=
  (storeDualBody_leads ad rn rt s).mono fun _ => State.StoredBackFrom.keepsInputs

theorem ldmBody_keepsInputs (p u w : Bool) (rn : Reg) (registers : BitVec 16) (s : State) :
    (ldmBody p u w rn registers s).Leads s.KeepsInputs :=
  (ldmBody_leads p u w rn registers s).mono fun _ => State.LoadedFrom.keepsInputs

theorem stmBody_keepsInputs (p u w : Bool) (rn : Reg) (registers : BitVec 16) (s : State) :
    (stmBody p u w rn registers s).Leads s.KeepsInputs :=
  (stmBody_leads p u w rn registers s).mono fun _ => State.StoredBackFrom.keepsInputs

theorem ldmUserBody_keepsInputs (o : LdmUserOp) (s : State) : (ldmUserBody o s).Leads s.KeepsInputs :=
  (ldmUserBody_leads o s).mono fun _ => State.LoadedFrom.keepsInputs

theorem stmUserBody_keepsInputs (o : StmUserOp) (s : State) : (stmUserBody o s).Leads s.KeepsInputs :=
  (stmUserBody_leads o s).mono fun _ h => h.back.keepsInputs

theorem ldmExcBody_keepsInputs (o : LdmExcOp) (s : State) : (ldmExcBody o s).Leads s.KeepsInputs :=
  ldmExcBody_leads (fun _ m i v h => h.setRmode m i v) (fun t m i h => h.trans (t.drawReg_loaded m i).keepsInputs)
    (fun v t h => (exceptionReturn_keepsInputs v t).mono fun _ => h.trans) o s (.refl s)

theorem ldrexBody_keepsInputs (rn rt : Reg) (s : State) : (ldrexBody rn rt s).Leads s.KeepsInputs :=
  (ldrexBody_leads rn rt s).mono fun _ ⟨_, h⟩ => h.keepsInputs.after ⟨rfl, rfl, rfl, rfl⟩

theorem strexBody_keepsInputs (rn rd rt : Reg) (s : State) : (strexBody rn rd rt s).Leads s.KeepsInputs :=
  (strexBody_leads rn rd rt s).mono fun _ ⟨_, h⟩ => h.keepsInputs.after ⟨rfl, rfl, rfl, rfl⟩

theorem cp15WriteBody_keepsInputs (k : Cp15Key) (v : Word) (s : State) : (cp15WriteBody k v s).Leads s.KeepsInputs := by
  unfold cp15WriteBody
  split
  · trivial
  · split
    · trivial
    · split
      · exact .refl s
      · exact ⟨rfl, rfl, rfl, rfl⟩

theorem mrcWrite_keepsInputs (rt : Reg) (v : Word) (s : State) : s.KeepsInputs (mrcWrite rt v s) := by
  unfold mrcWrite
  split
  · exact ⟨rfl, rfl, rfl, rfl⟩
  · exact s.setReg_keepsInputs rt v

/-- R491: an MRC's read leaves the state as it was; only its destination is written. -/
theorem mrc_keepsInputs (k : Cp15Key) (rt : Reg) (s : State) :
    ((cp15ReadBody k s).andThen fun v t => .done (mrcWrite rt v t)).Leads s.KeepsInputs := by
  refine (cp15ReadBody_leads k s).andThen (fun v t h => ?_) fun t h => h ▸ .refl s
  exact h ▸ mrcWrite_keepsInputs rt v t

/-- R453: CPS writes CPSR, and in User mode nothing. -/
theorem cps_keepsInputs (value : Word) (s : State) :
    (if s.privileged then cpsrWriteByInstr value 0b1111 false s else .done s).Leads s.KeepsInputs := by
  split
  · exact cpsrWriteByInstr_keepsInputs value _ false s
  · exact .refl s

/-- R467: WFI writes the wait alone. -/
theorem wfi_keepsInputs (s : State) :
    s.KeepsInputs (if s.irqPending || s.fiqPending then s else { s with waiting := true }) := by
  split
  · exact .refl s
  · exact ⟨rfl, rfl, rfl, rfl⟩

/-! ### The UNPREDICTABLE cases

Whether some case of a list holds, as the disjunction that `Instr.unpredictable` writes, associated to the right. -/

/-- R190: no category is reported exactly if no case holds. -/
theorem firstCase_eq_none {cases : List (Bool × Unpred)} : firstCase cases = none ↔ cases.any Prod.fst = false := by
  induction cases with
  | nil => simp [firstCase]
  | cons p rest ih => cases hp : p.1 <;> simp [firstCase, hp, ih]

@[simp] theorem sbz_fst {n : Nat} (v : BitVec n) : (sbz v).1 = (v != 0) := rfl

@[simp] theorem sbo_fst {n : Nat} (v : BitVec n) : (sbo v).1 = (v != BitVec.allOnes n) := rfl

@[simp] theorem rsrPc_fst (rs : List Reg) : (rsrPc rs).1 = anyPc rs := rfl

@[simp] theorem anyPc_cons (r : Reg) (rs : List Reg) : anyPc (r :: rs) = (r == pcReg || anyPc rs) := rfl

@[simp] theorem anyPc_nil : anyPc [] = false := rfl

@[simp] theorem blockCase_fst {n : Nat} (rn : Reg) (registers : BitVec n) :
    (blockCase rn registers).1 = (rn == pcReg || registers == 0) := rfl

@[simp] theorem any_loadCases (rule : Nat) (p w : Bool) (rn rt : Reg) :
    (loadCases rule (wbackOf p w) rn rt).any Prod.fst = (rt == pcReg || (!p || w) && (rn == pcReg || rn == rt)) := by
  simp only [loadCases, wbackOf, List.any_cons, List.any_nil, Bool.or_false]
  cases rt == pcReg <;> simp [Bool.and_or_distrib_left]

@[simp] theorem any_loadPcCases (rule : Nat) (p w : Bool) (rn rt : Reg) :
    (loadPcCases rule (wbackOf p w) rn rt).any Prod.fst = ((!p || w) && (rn == pcReg || rn == rt)) := by
  simp [loadPcCases, wbackOf, Bool.and_or_distrib_left]

@[simp] theorem any_storeCases (rule : Nat) (p w : Bool) (rn rt : Reg) :
    (storeCases rule (wbackOf p w) rn rt).any Prod.fst = (rt == pcReg || (!p || w) && (rn == pcReg || rn == rt)) := by
  simp [storeCases, wbackOf]

@[simp] theorem any_storePcCases (rule : Nat) (p w : Bool) (rn rt : Reg) :
    (storePcCases rule (wbackOf p w) rn rt).any Prod.fst = ((!p || w) && (rn == pcReg || rn == rt)) := by
  simp [storePcCases, wbackOf]

@[simp] theorem any_tCases (rule : Nat) (rn rt : Reg) :
    (tCases rule rn rt).any Prod.fst = (rn == pcReg || (rn == rt || rt == pcReg)) := by
  simp [tCases, Bool.or_assoc]

@[simp] theorem any_tStoreCases (rn rt : Reg) : (tStoreCases rn rt).any Prod.fst = (rn == pcReg || rn == rt) := by
  simp [tStoreCases]

@[simp] theorem any_dualCases (rule : Nat) (p w : Bool) (rn rt : Reg) :
    (dualCases rule (wbackOf p w) rn rt).any Prod.fst =
      (rt.getLsbD 0 || (rt == lrReg || (!p || w) && (rn == rt || (rn == rt + 1 || rn == pcReg)))) := by
  simp [dualCases, wbackOf, Bool.or_assoc]

@[simp] theorem any_mulLongCases (rule : Nat) (o : MulLongOp) :
    (mulLongCases rule o).any Prod.fst =
      (o.rdHi == pcReg || (o.rdLo == pcReg || (o.rn == pcReg || (o.rm == pcReg || o.rdHi == o.rdLo)))) := by
  simp [mulLongCases, Bool.or_assoc]

@[simp] theorem any_bfxCases (rule : Nat) (o : BfxOp) :
    (bfxCases rule o).any Prod.fst =
      (o.rd == pcReg || (o.rn == pcReg || decide (32 ≤ o.lsb.toNat + o.widthm1.toNat))) := by
  simp [bfxCases, Bool.or_assoc, Nat.lt_iff_add_one_le]

@[simp] theorem any_ldmCases (o : BlockOp) :
    (ldmCases o).any Prod.fst =
      (o.rn == pcReg || (o.registers == 0 || o.w && o.registers.getLsbD o.rn.toNat)) := by
  simp [ldmCases, Bool.or_assoc]

/-- R8: a listed register is the lowest of its list exactly if no lower one is listed. -/
theorem eq_lowestSetBit_iff {n : Nat} (x : BitVec n) {i : Nat} (hi : x.getLsbD i = true) :
    i = lowestSetBit x ↔ ∀ j < i, x.getLsbD j = false := by
  have hn : i < n := BitVec.lt_of_getLsbD hi
  have hfind : (List.range n).find? (fun j => x.getLsbD j) = some i ↔ ∀ j < i, x.getLsbD j = false := by
    simp [List.find?_range_eq_some, hi, hn]
  rw [← hfind, lowestSetBit, List.headD_eq_head?_getD, List.head?_filter]
  cases hf : (List.range n).find? (fun j => x.getLsbD j) with
  | none => simp_all
  | some k => simp [eq_comm]

/-- R416: the two ways to say that the base is listed and is not the lowest register of the list. -/
theorem baseNotLowest_eq (o : BlockOp) :
    o.baseNotLowest = (o.registers.getLsbD o.rn.toNat && o.rn.toNat != lowestSetBit o.registers) := by
  unfold BlockOp.baseNotLowest
  cases hi : o.registers.getLsbD o.rn.toNat with
  | false => rfl
  | true =>
    rw [Bool.true_and, Bool.true_and, Bool.eq_iff_iff, bne_iff_ne, ne_eq, eq_lowestSetBit_iff _ hi]
    simp

@[simp] theorem any_stmCases (o : BlockOp) :
    (stmCases o).any Prod.fst = (o.rn == pcReg || (o.registers == 0 || o.w && o.baseNotLowest)) := by
  simp [stmCases, baseNotLowest_eq, Bool.or_assoc, Bool.and_assoc]

/-- R453: the two ways to say which CPS is inconsistent. -/
theorem cpsInconsistent_eq (o : CpsOp) : cpsInconsistent o = o.inconsistent := rfl

end Sys2Proof.Machine

namespace Sys2Proof

open Machine

/-! ### The meaning of an instruction -/

/-- The shapes a meaning has: a body after the UNPREDICTABLE cases of the encoding and its condition (R13, R190), a body
without a condition (R176), the Undefined Instruction exception (R191), a halt. -/
inductive Instr.HasMeaning (i : Instr) : Prop
  | conditional {c : Cond} {cases : List (Bool × Unpred)} {body : State → Res Unit} (hcond : i.condition = some c)
      (hexec : ∀ s, exec i s = runInstr c cases s body) (hunpred : i.unpredictable = cases.any Prod.fst)
      (hkeeps : ∀ s, (body s).Leads s.KeepsInputs)
  | always {cases : List (Bool × Unpred)} {body : State → Res Unit} (hcond : i.condition = none)
      (hexec : ∀ s, exec i s = runAlways cases s body) (hunpred : i.unpredictable = cases.any Prod.fst)
      (hkeeps : ∀ s, (body s).Leads s.KeepsInputs)
  | undefined (hcond : i.condition = none) (hexec : ∀ s, exec i s = raise .undefined s)
  | halts {f : Fault} (hcond : i.condition = none) (hexec : ∀ s, exec i s = .fault f)

/-- R13, R161: every instruction has a meaning of one of these shapes. The instructions are grouped by their body. -/
theorem Instr.hasMeaning (i : Instr) : i.HasMeaning := by
  cases i with
  | undefUncondMisc w | undefUncond1100000 w | mcrr2 o | stc2 o | cdp2 o | mcr2 o | undefUncondOther w
  | mrsMsrBanked w | eret w | hvc w | undefMisc w | undefMultiply0101 w | undefMultiply0111 w | undefSync w
  | udf o | undefCoproc00000 w | undefAnyOther w =>
    exact .undefined rfl fun _ => rfl
  | memHintImm w | pliImm o | pldwImm o | pldImm o | dsb o | dmb o | isb o | memHintReg w | pliReg o
  | pldwReg o | pldReg o =>
    refine .always rfl (fun s => by dsimp only [exec]; rfl) ?_ ?_
    · simp [Instr.unpredictable]
    · exact State.KeepsInputs.refl
  | nop o | yield o | wfe o | sev o | dbg o | hintUnallocated o =>
    refine .conditional rfl (fun s => by dsimp only [exec]; rfl) ?_ ?_
    · simp [Instr.unpredictable]
    · exact State.KeepsInputs.refl
  | wfi o =>
    refine .conditional rfl (fun s => by dsimp only [exec]; rfl) ?_ ?_
    · simp [Instr.unpredictable]
    · exact wfi_keepsInputs
  | cps o =>
    refine .always rfl (fun s => by dsimp only [exec]; rfl) ?_ ?_
    · simp [Instr.unpredictable, cpsInconsistent_eq]
    · exact fun s => cps_keepsInputs _ s
  | setend o | clrex o =>
    refine .always rfl (fun s => by dsimp only [exec]; rfl) ?_ ?_
    · simp [Instr.unpredictable, Bool.or_assoc]
    · exact fun _ => ⟨rfl, rfl, rfl, rfl⟩
  | tstImm o | tstReg o | tstRsr o | teqImm o | teqReg o | teqRsr o | cmpImm o | cmpReg o | cmpRsr o
  | cmnImm o | cmnReg o | cmnRsr o =>
    refine .conditional rfl (fun s => by dsimp only [exec]; rfl) ?_ ?_
    · simp [Instr.unpredictable, Bool.or_assoc]
    · exact fun _ => ⟨rfl, rfl, rfl, rfl⟩
  | svc o | mcrr o | stc o | cdp o | mcrOther o =>
    refine .conditional rfl (fun s => by dsimp only [exec]; rfl) ?_ ?_
    · rfl
    · exact State.KeepsInputs.refl
  | mrs o =>
    refine .conditional rfl (fun s => by dsimp only [exec]; rfl) ?_ ?_
    · simp [Instr.unpredictable, Bool.or_assoc]
    · exact mrsBody_keepsInputs o.r o.rd
  | msrReg o | msrImm o =>
    refine .conditional rfl (fun s => by dsimp only [exec]; rfl) ?_ ?_
    · simp [Instr.unpredictable, Bool.or_assoc]
    · exact fun s => msrBody_keepsInputs o.r o.mask _ s
  | mcrP15 o =>
    refine .conditional rfl (fun s => by dsimp only [exec]; rfl) ?_ ?_
    · simp [Instr.unpredictable]
    · exact fun s => cp15WriteBody_keepsInputs _ _ s
  | mrcP15 o =>
    refine .conditional rfl (fun s => by dsimp only [exec]; rfl) ?_ ?_
    · rfl
    · exact fun s => mrc_keepsInputs _ o.rt s
  | b o =>
    refine .conditional rfl (fun s => by dsimp only [exec]; rfl) ?_ ?_
    · rfl
    · exact fun s => (s.branchWritePC_loaded _).keepsInputs
  | bl o =>
    refine .conditional rfl (fun s => by dsimp only [exec]; rfl) ?_ ?_
    · rfl
    · exact fun s => (s.setReg_keepsInputs lrReg _).trans (State.branchWritePC_loaded _ _).keepsInputs
  | bx o | bxj o =>
    refine .conditional rfl (fun s => by dsimp only [exec]; rfl) ?_ ?_
    · simp [Instr.unpredictable]
    · exact fun s => bxWritePC_keepsInputs _ s
  | blxReg o =>
    refine .conditional rfl (fun s => by dsimp only [exec]; rfl) ?_ ?_
    · simp [Instr.unpredictable]
    · exact fun s => (bxWritePC_keepsInputs _ _).mono fun _ => (s.setReg_keepsInputs lrReg _).trans
  | clz o | movw o | movt o | sxtb16 o | sxtab16 o | sxtb o | sxtab o | sxth o | sxtah o | uxtb16 o
  | uxtab16 o | uxtb o | uxtab o | uxth o | uxtah o | rev o | rev16 o | revsh o | sbfx o | bfc o | bfi o
  | ubfx o =>
    refine .conditional rfl (fun s => by dsimp only [exec]; rfl) ?_ ?_
    · simp [Instr.unpredictable, Bool.or_assoc]
    · exact fun s => s.setReg_keepsInputs o.rd _
  | andImm o | andReg o | eorImm o | eorReg o | subImm o | subReg o | rsbImm o | rsbReg o | addImm o
  | addReg o | adcImm o | adcReg o | sbcImm o | sbcReg o | rscImm o | rscReg o | orrImm o | orrReg o
  | bicImm o | bicReg o =>
    refine .conditional rfl (fun s => by dsimp only [exec]; rfl) ?_ ?_
    · rfl
    · exact fun s => writeDP_keepsInputs o.rd o.s _ _ _ s
  | andRsr o | eorRsr o | subRsr o | rsbRsr o | addRsr o | adcRsr o | sbcRsr o | rscRsr o | orrRsr o
  | movImm o | movReg o | rrx o | lslImm o | lsrImm o | asrImm o | rorImm o | lslReg o | lsrReg o | asrReg o
  | rorReg o | bicRsr o | mvnImm o | mvnReg o | mvnRsr o =>
    refine .conditional rfl (fun s => by dsimp only [exec]; rfl) ?_ ?_
    · simp [Instr.unpredictable, Bool.or_assoc]
    · exact fun s => writeDP_keepsInputs o.rd o.s _ _ _ s
  | mul o | mla o | mls o =>
    refine .conditional rfl (fun s => by dsimp only [exec]; rfl) ?_ ?_
    · simp [Instr.unpredictable, Bool.or_assoc]
    · exact fun s => mulWrite_keepsInputs o.rd _ _ s
  | umull o | umlal o | smull o | smlal o =>
    refine .conditional rfl (fun s => by dsimp only [exec]; rfl) ?_ ?_
    · simp [Instr.unpredictable, Bool.or_assoc]
    · exact fun s => mulLongWrite_keepsInputs o.rdHi o.rdLo o.s _ s
  | ldrhtImm o | ldrhtReg o | ldrhImm o | ldrhReg o | ldrsbtImm o | ldrsbtReg o | ldrsbImm o | ldrsbReg o
  | ldrshtImm o | ldrshtReg o | ldrshImm o | ldrshReg o | ldrtImm o | ldrtReg o | ldrbtImm o | ldrbtReg o
  | ldrbImm o | ldrbReg o =>
    refine .conditional rfl (fun s => by dsimp only [exec]; rfl) ?_ ?_
    · simp [Instr.unpredictable, Bool.or_assoc]
    · exact fun s => loadBody_keepsInputs _ _ _ _ _ o.rn o.rt s
  | strhtImm o | strhtReg o | strhImm o | strhReg o | strtImm o | strtReg o | strImm o | strReg o | strbtImm o
  | strbtReg o | strbImm o | strbReg o =>
    refine .conditional rfl (fun s => by dsimp only [exec]; rfl) ?_ ?_
    · simp [Instr.unpredictable, Bool.or_assoc]
    · exact fun s => storeBody_keepsInputs _ _ _ _ o.rn o.rt s
  | ldrImm o | ldrReg o =>
    refine .conditional rfl (fun s => by dsimp only [exec]; rfl) ?_ ?_
    · simp [Instr.unpredictable]
    · exact fun s => loadWordBody_keepsInputs _ o.rn o.rt s
  | ldrdImm o | ldrdReg o =>
    refine .conditional rfl (fun s => by dsimp only [exec]; rfl) ?_ ?_
    · simp [Instr.unpredictable, Bool.or_assoc]
    · exact fun s => loadDualBody_keepsInputs _ o.rn o.rt s
  | strdImm o | strdReg o =>
    refine .conditional rfl (fun s => by dsimp only [exec]; rfl) ?_ ?_
    · simp [Instr.unpredictable, Bool.or_assoc]
    · exact fun s => storeDualBody_keepsInputs _ o.rn o.rt s
  | ldrex o =>
    refine .conditional rfl (fun s => by dsimp only [exec]; rfl) ?_ ?_
    · simp [Instr.unpredictable, Bool.or_assoc]
    · exact ldrexBody_keepsInputs o.rn o.rt
  | strex o =>
    refine .conditional rfl (fun s => by dsimp only [exec]; rfl) ?_ ?_
    · simp [Instr.unpredictable, Bool.or_assoc]
    · exact strexBody_keepsInputs o.rn o.rd o.rt
  | ldmda o | ldm o | ldmdb o | ldmib o =>
    refine .conditional rfl (fun s => by dsimp only [exec]; rfl) ?_ ?_
    · simp [Instr.unpredictable, Bool.or_assoc]
    · exact ldmBody_keepsInputs _ _ o.w o.rn o.registers
  | stmda o | stm o | stmdb o | stmib o =>
    refine .conditional rfl (fun s => by dsimp only [exec]; rfl) ?_ ?_
    · simp [Instr.unpredictable, Bool.or_assoc]
    · exact stmBody_keepsInputs _ _ o.w o.rn o.registers
  | ldmUser o =>
    refine .conditional rfl (fun s => by dsimp only [exec]; rfl) ?_ ?_
    · simp [Instr.unpredictable, Bool.or_assoc]
    · exact ldmUserBody_keepsInputs o
  | stmUser o =>
    refine .conditional rfl (fun s => by dsimp only [exec]; rfl) ?_ ?_
    · simp [Instr.unpredictable, Bool.or_assoc]
    · exact stmUserBody_keepsInputs o
  | ldmExcReturn o =>
    refine .conditional rfl (fun s => by dsimp only [exec]; rfl) ?_ ?_
    · simp [Instr.unpredictable]
    · exact ldmExcBody_keepsInputs o
  | qadd o | smc o | swp o =>
    exact .halts rfl fun _ => (apply_ite _ _ _ _).symm
  | _ =>
    exact .halts rfl fun _ => rfl

end Sys2Proof

namespace Sys2Proof.Machine

/-! ### A failed condition -/

/-- R13: no UNPREDICTABLE case and a failed condition leave only the PC's advance. -/
theorem runInstr_failed {cond : Cond} {cases : List (Bool × Unpred)} {s : State} {body : State → Res Unit}
    (hc : firstCase cases = none) (hp : conditionPassed cond s.cpsr = false) :
    runInstr cond cases s body = .next s.advance := by
  simp [runInstr, hc, hp]

/-- An instruction that evaluates no condition cannot fail it. -/
theorem condition_ne_none_of_not_passes {i : Instr} {s : State} (h : i.passes s = false) : i.condition ≠ none := by
  intro hnone
  simp [Instr.passes, hnone] at h

theorem passes_of_condition_some {i : Instr} {c : Cond} {s : State} (h : i.condition = some c) :
    i.passes s = conditionPassed c s.cpsr := by
  simp [Instr.passes, h]

/-- Settles O14: only an instruction with a condition can fail it, and its body is then skipped. -/
theorem failedConditionOnlyAdvances : Obligations.FailedConditionOnlyAdvances := by
  intro i s hunp hfail
  have hcond' : i.condition ≠ none := condition_ne_none_of_not_passes hfail
  cases i.hasMeaning with
  | conditional hcond hexec hunpred _ =>
    have hcases := firstCase_eq_none.mpr (hunpred.symm.trans hunp)
    rw [hexec, runInstr_failed hcases (passes_of_condition_some hcond ▸ hfail)]
    rfl
  | always hcond _ _ _ => exact absurd hcond hcond'
  | undefined hcond _ => exact absurd hcond hcond'
  | halts hcond _ => exact absurd hcond hcond'

/-! ### What an instruction keeps -/

/-- R6, R540, R5: no instruction changes a parameter, an interrupt latch or the terminal state. -/
theorem exec_keepsInputs {i : Instr} {s t : State} (h : exec i s = .next t) : s.KeepsInputs t := by
  cases i.hasMeaning with
  | conditional _ hexec _ hkeeps => exact runInstr_keepsInputs hkeeps (hexec s ▸ h)
  | always _ hexec _ hkeeps => exact runInstr_keepsInputs hkeeps (hexec s ▸ h)
  | undefined _ hexec => exact raise_keepsInputs (hexec s ▸ h)
  | halts _ hexec => exact absurd (hexec s ▸ h) (by simp)

/-- R105: where no read has side effects, an instruction's outcome is the same ticked. -/
theorem exec_ticked_of_plain {i : Instr} {s : State} (h : s.params.volatile = []) :
    Out.ticked (exec i s) = exec i s := by
  cases ho : exec i s with
  | next t =>
    have hparams : t.params = s.params := (exec_keepsInputs ho).params
    rw [Out.ticked_next, State.ticked_of_plain (hparams ▸ h)]
  | fault f => rfl
  | refused r => rfl

/-! ### The fetch -/

/-- R44: a word-aligned PC is aligned to a word's width. -/
theorem alignedTo_pc {s : State} (h : s.pcAligned = true) : alignedTo s.pc .word = true := by
  have hlow : (slice s.pc 0 2).toNat = 0 := by simp [eq_of_beq h]
  simpa [alignedTo, Width.bytes, slice, BitVec.extractLsb'_toNat] using hlow

/-- R103: the word at a physical address is made of its four bytes, the lowest address least significant. -/
theorem State.physRead_word (s : State) (r : PortRead) (pa : Word) :
    s.physRead r pa .word =
      wordOfBytes (s.portByte r pa) (s.portByte r (pa + 1)) (s.portByte r (pa + 2)) (s.portByte r (pa + 3)) := by
  have h2 : pa + 1 + 1 = pa + 2 := BitVec.add_assoc pa 1 1
  have h3 : pa + 2 + 1 = pa + 3 := BitVec.add_assoc pa 2 1
  simp only [State.physRead, Width.bytes, joinBytes, wordOfBytes, place, h2, h3]
  simp [BitVec.shiftLeft_or_distrib, ← BitVec.shiftLeft_add, BitVec.or_assoc]

/-- R121: an aligned PC whose translation gives an address fetches the word there and leaves the state as it was. -/
theorem fetchWord_of_translated {s : State} {pa : Word} (hpc : s.pcAligned = true)
    (hpa : s.translate s.pc fetchAccess = .pa pa) :
    fetchWord s = .ok (s.physRead (fetchAccess.reading .bytes s.pc) pa .word) s := by
  have hfetch : fetchAccess.fetch = true := rfl
  simp [fetchWord, memRead, hfetch, alignedTo_pc hpc, readWhole, translateThen, hpa]

/-- R541: an interrupt that is masked or not pending is not accepted. -/
theorem acceptInterrupt_eq_none {s : State} (hfiq : s.fiqPending = true → psrF s.cpsr = true)
    (hirq : s.irqPending = true → psrI s.cpsr = true) : acceptInterrupt s = none := by
  have hF : (s.fiqPending && !psrF s.cpsr) = false := by cases h : s.fiqPending <;> simp [h, hfiq]
  have hI : (s.irqPending && !psrI s.cpsr) = false := by cases h : s.irqPending <;> simp [h, hirq]
  simp [acceptInterrupt, hF, hI]

/-- R14: a core that is neither halted nor waiting and accepts no interrupt fetches and executes. -/
theorem step_of_running {s : State} (hhalted : s.halted = none) (hwaiting : s.waiting = false)
    (haccept : acceptInterrupt s = none) : step s = fetchAndExecute s := by
  simp [step, cycle, hhalted, wake, hwaiting, boundary, haccept]

/-- R102: four bytes decode to the instruction of their word, with none left. -/
theorem decodeBytes_word (b0 b1 b2 b3 : Byte) :
    decodeBytes [b0, b1, b2, b3] = .ok (decode (wordOfBytes b0 b1 b2 b3), []) := rfl

/-- Settles O4: the fetch reads the word of the four bytes at the translated PC, and the tick after the instruction is the
identity where no read has side effects. -/
theorem stepRunsTheDecodedInstruction : Obligations.StepRunsTheDecodedInstruction := by
  intro s i pa hhalted hwaiting hfiq hirq hpc hpa byte hdecode
  have hi : decode (s.physRead (fetchAccess.reading .bytes s.pc) pa .word) = i := by
    rw [decodeBytes_word] at hdecode
    rw [State.physRead_word]
    exact congrArg Prod.fst (Except.ok.inj hdecode)
  have hstep : step s = Out.ticked (exec i s) := by
    rw [step_of_running hhalted hwaiting (acceptInterrupt_eq_none hfiq hirq), fetchAndExecute, runFetched,
      fetchWord_of_translated hpc hpa, ← hi]
  exact ⟨hstep, fun hplain => hstep.trans (exec_ticked_of_plain hplain)⟩

end Sys2Proof.Machine
end

section
/-! SUPPORT. Masked words: two words that agree under a mask have the same fields there, and what a masked write keeps. On them
rests what a status register write keeps of CPSR (`CpsrFrom`). -/

namespace Sys2Proof.Machine

/-! ### Words that agree under a mask -/

theorem slice_congr {a b m : Word} (h : a &&& m = b &&& m) (k n : Nat) (hm : slice m k n = BitVec.allOnes n) :
    slice a k n = slice b k n := by
  have hcut (x : Word) : slice (x &&& m) k n = slice x k n := by
    simp only [slice] at hm ⊢
    rw [BitVec.extractLsb'_and, hm, BitVec.and_allOnes]
  rw [← hcut a, h, hcut b]

theorem bit_congr {a b m : Word} (h : a &&& m = b &&& m) (k : Nat) (hm : bit m k = true) : bit a k = bit b k := by
  have hcut (x : Word) : bit (x &&& m) k = bit x k := by
    simp only [bit] at hm ⊢
    rw [BitVec.getLsbD_and, hm, Bool.and_true]
  rw [← hcut a, h, hcut b]

/-- Agreement under a mask is agreement under every smaller one. -/
theorem and_congr_of_subset {a b m k : Word} (h : a &&& m = b &&& m) (hk : m &&& k = k) : a &&& k = b &&& k := by
  rw [← hk, ← BitVec.and_assoc, h, BitVec.and_assoc]

/-- Words that agree under two masks agree under both together. -/
theorem and_congr_union {a b m k : Word} (hm : a &&& m = b &&& m) (hk : a &&& k = b &&& k) :
    a &&& (m ||| k) = b &&& (m ||| k) := by
  rw [BitVec.and_comm a, BitVec.and_comm b, or_and_mask, or_and_mask, BitVec.and_comm m, BitVec.and_comm k, hm, hk,
    BitVec.and_comm m, BitVec.and_comm k]

/-- Clearing bits outside a mask keeps what is under it. -/
theorem and_not_and_of_disjoint {c k : Word} (h : c &&& k = 0) (w : Word) : w &&& ~~~c &&& k = w &&& k := by
  ext j hj
  have hck : (c &&& k).getLsbD j = false := by simp [h]
  simp only [← BitVec.getLsbD_eq_getElem, BitVec.getLsbD_and, BitVec.getLsbD_not, hj] at hck ⊢
  cases hc : c.getLsbD j <;> simp_all

/-- A masked write takes each bit of its mask from the new value. -/
theorem getLsbD_merge (m a b : Word) (j : Nat) (hj : j < 32) :
    (merge m a b).getLsbD j = if m.getLsbD j then b.getLsbD j else a.getLsbD j := by
  simp only [merge, BitVec.getLsbD_or, BitVec.getLsbD_and, BitVec.getLsbD_not, hj]
  cases m.getLsbD j <;> simp

/-- A masked write keeps what its mask leaves out, and what the new value has as the old. -/
theorem merge_and_of_disjoint {m k : Word} (h : m &&& k = 0) (a b : Word) : merge m a b &&& k = a &&& k := by
  ext j hj
  have hmk : (m &&& k).getLsbD j = false := by simp [h]
  simp only [← BitVec.getLsbD_eq_getElem, BitVec.getLsbD_and, getLsbD_merge _ _ _ _ hj] at hmk ⊢
  cases hm : m.getLsbD j <;> simp_all

theorem merge_and_of_agree {m k a b : Word} (h : b &&& k = a &&& k) : merge m a b &&& k = a &&& k := by
  ext j hj
  have hjk : (b &&& k).getLsbD j = (a &&& k).getLsbD j := by rw [h]
  simp only [← BitVec.getLsbD_eq_getElem, BitVec.getLsbD_and, getLsbD_merge _ _ _ _ hj] at hjk ⊢
  cases hm : m.getLsbD j <;> simp_all

/-- A masked write gives the new value's bits under every part of its mask. -/
theorem merge_and_of_subset {m k : Word} (h : m &&& k = k) (a b : Word) : merge m a b &&& k = b &&& k := by
  ext j hj
  have hmk : (m &&& k).getLsbD j = k.getLsbD j := by rw [h]
  simp only [← BitVec.getLsbD_eq_getElem, BitVec.getLsbD_and, getLsbD_merge _ _ _ _ hj] at hmk ⊢
  cases hm : m.getLsbD j <;> simp_all

/-! ### The fields of a status word -/

/-- R36: the mode field under its mask. -/
theorem psrM_congr {a b : Word} (h : a &&& 0x1F = b &&& 0x1F) : psrM a = psrM b := slice_congr h 0 5 (by decide)

/-- R37: whether a status word is of ARM state depends on T, J and IT alone. -/
theorem execStateFault_congr {a b : Word} (h : a &&& 0x0700FC20 = b &&& 0x0700FC20) :
    execStateFault a = execStateFault b := by
  have hT : psrT a = psrT b := bit_congr h 5 (by decide)
  have hJ : psrJ a = psrJ b := bit_congr h 24 (by decide)
  have hIT : a &&& itMask = b &&& itMask := and_congr_of_subset h (by decide)
  simp [execStateFault, hT, hJ, hIT]

/-- R36, R37, R48: the status word `new` has the legal mode, the ARM state and the reserved bits of `old`, and of N, Z, C, V, Q
and GE all but the bits of `flags`. -/
structure CpsrFrom (flags old new : Word) : Prop where
  keptFlags : new &&& (0xF80F0000 &&& ~~~flags) = old &&& (0xF80F0000 &&& ~~~flags)
  legalMode : badMode (psrM old) = false → badMode (psrM new) = false
  armState : execStateFault old = none → execStateFault new = none
  reserved : slice new 20 4 = slice old 20 4

theorem CpsrFrom.refl (flags w : Word) : CpsrFrom flags w w := ⟨rfl, id, id, rfl⟩

theorem CpsrFrom.trans {flags u v w : Word} (h : CpsrFrom flags u v) (h' : CpsrFrom flags v w) : CpsrFrom flags u w :=
  ⟨h'.keptFlags.trans h.keptFlags, h'.legalMode ∘ h.legalMode, h'.armState ∘ h.armState, h'.reserved.trans h.reserved⟩

/-- A word that differs in the named flags only. -/
theorem CpsrFrom.of_flags {flags old new : Word} (h : new &&& (0x07F0FFFF ||| ~~~flags) = old &&& (0x07F0FFFF ||| ~~~flags)) :
    CpsrFrom flags old new := by
  have hrest : new &&& 0x07F0FFFF = old &&& 0x07F0FFFF := by
    refine and_congr_of_subset h ?_
    ext j hj
    simp
    tauto
  refine ⟨and_congr_of_subset h ?_, fun hm => ?_, fun hx => ?_, slice_congr hrest 20 4 (by decide)⟩
  · ext j hj
    simp
    tauto
  · rw [psrM_congr (and_congr_of_subset hrest (by decide)), hm]
  · rw [execStateFault_congr (and_congr_of_subset hrest (by decide)), hx]

/-! ### What the writes of CPSR keep -/

/-- R47, R48: N, Z, C and V written, V perhaps with its own value. -/
theorem setNZCV_from (w : Word) (n z c v : Bool) : CpsrFrom 0xF0000000 w (setNZCV w n z c v) :=
  .of_flags (merge_and_of_disjoint (by decide) w _)

/-- A bit of a word, put back in its place, is that word under the mask of the bit. -/
theorem placeBit_bit (w : Word) (i : Nat) : placeBit (bit w i) i = w &&& placeBit true i := by
  ext j hj
  by_cases hij : j = i
  · subst hij
    simp [placeBit, place, bit, ← BitVec.getLsbD_eq_getElem, hj]
  · by_cases hlt : j < i
    · simp [placeBit, place, bit, hlt]
    · have hpos : ¬ j - i = 0 := by omega
      simp [placeBit, place, bit, hlt, hpos]

/-- Of the four flags put together, V is bit 28. -/
theorem flagBits_and_v (n z c v : Bool) :
    (placeBit n 31 ||| placeBit z 30 ||| placeBit c 29 ||| placeBit v 28) &&& 0x10000000 = placeBit v 28 := by
  revert n z c v
  decide

theorem setNZCV_keepV_from (w : Word) (n z c : Bool) : CpsrFrom 0xE0000000 w (setNZCV w n z c (psrV w)) := by
  have hrest : setNZCV w n z c (psrV w) &&& 0x0FFFFFFF = w &&& 0x0FFFFFFF := merge_and_of_disjoint (by decide) w _
  have hv : setNZCV w n z c (psrV w) &&& 0x10000000 = w &&& 0x10000000 :=
    merge_and_of_agree ((flagBits_and_v n z c _).trans (placeBit_bit w 28))
  exact .of_flags (and_congr_union (k := 0x10000000) hrest hv)

/-- R238 to R244: the flags that an operation writes: a logical one keeps V. -/
def DpOp.flags : DpOp → Word
  | .and | .eor | .orr | .bic => 0xE0000000
  | .sub | .rsb | .add | .adc | .sbc | .rsc => 0xF0000000

/-- R223: the flags of an operation's result, from the overflow flag that CPSR holds. -/
theorem setNZCV_eval_from (op : DpOp) (w x y : Word) (cin sc n z : Bool) :
    let r := op.eval x y cin sc (psrV w)
    CpsrFrom op.flags w (setNZCV w n z r.carry r.overflow) := by
  cases op with
  | and | eor | orr | bic => exact setNZCV_keepV_from w _ _ _
  | sub | rsb | add | adc | sbc | rsc => exact setNZCV_from w _ _ _ _

theorem setNZ_from (w : Word) (n z : Bool) : CpsrFrom 0xC0000000 w (setNZ w n z) :=
  .of_flags (merge_and_of_disjoint (by decide) w _)

/-- R36, R39: no write of CPSR by an instruction reaches the reserved bits. -/
theorem cpsrWriteMask_reserved (mask : BitVec 4) (ex priv blockF : Bool) :
    cpsrWriteMask mask ex priv blockF &&& 0x00F00000 = 0 := by
  revert mask ex priv blockF
  decide

/-- R39: the mode is written as a whole, by a privileged write of the lowest byte, or not at all. -/
theorem cpsrWriteMask_mode (mask : BitVec 4) (ex priv blockF : Bool) :
    cpsrWriteMask mask ex priv blockF &&& 0x1F = if mask.getLsbD 0 && priv then 0x1F else 0 := by
  revert mask ex priv blockF
  decide

/-- R39: a CPSR write that passes its checks. -/
theorem State.cpsrWritten_from {s : State} {value flags : Word} {mask : BitVec 4} {ex : Bool}
    (harm : execStateFault (s.cpsrWritten value mask ex) = none)
    (hmode : mask.getLsbD 0 = true → s.privileged = true → badMode (psrM value) = false)
    (hflags : s.cpsrWritten value mask ex &&& (0xF80F0000 &&& ~~~flags) = s.cpsr &&& (0xF80F0000 &&& ~~~flags)) :
    CpsrFrom flags s.cpsr (s.cpsrWritten value mask ex) := by
  refine ⟨hflags, fun hold => ?_, fun _ => harm,
    slice_congr (merge_and_of_disjoint (cpsrWriteMask_reserved _ _ _ _) _ _) 20 4 (by decide)⟩
  cases hw : mask.getLsbD 0 && s.privileged with
  | true =>
    obtain ⟨h0, hp⟩ := Bool.and_eq_true_iff.mp hw
    have hnew : psrM (s.cpsrWritten value mask ex) = psrM value :=
      psrM_congr (merge_and_of_subset (by rw [cpsrWriteMask_mode, hw, if_pos rfl]) _ _)
    rw [hnew, hmode h0 hp]
  | false =>
    have hnew : psrM (s.cpsrWritten value mask ex) = psrM s.cpsr :=
      psrM_congr (merge_and_of_disjoint (by rw [cpsrWriteMask_mode, hw, if_neg Bool.false_ne_true]) _ _)
    rw [hnew, hold]

/-- R451, R452, R48: the flags that an MSR of CPSR under a mask may write. -/
def msrFlags (mask : BitVec 4) : Word :=
  (if mask.getLsbD 3 then 0xF8000000 else 0) ||| (if mask.getLsbD 2 then 0x000F0000 else 0)

theorem cpsrWriteMask_msrFlags (mask : BitVec 4) (priv blockF : Bool) :
    cpsrWriteMask mask false priv blockF &&& (0xF80F0000 &&& ~~~msrFlags mask) = 0 := by
  revert mask priv blockF
  decide

/-- R453: CPS writes no flag. -/
theorem cpsValue_flags (o : CpsOp) (w : Word) : cpsValue o w &&& 0xF80F0000 = w &&& 0xF80F0000 := by
  obtain ⟨sel, hsel, hval⟩ : ∃ sel : Word, sel &&& 0xF80F0000 = 0 ∧ cpsValue o w =
      let masked := if o.imod = 2 then w &&& ~~~sel else if o.imod = 3 then w ||| sel else w
      if o.m then putSlice masked 0 o.mode else masked :=
    ⟨_, by cases o.a <;> cases o.i <;> cases o.f <;> decide, rfl⟩
  have hmasked : (if o.imod = 2 then w &&& ~~~sel else if o.imod = 3 then w ||| sel else w) &&& 0xF80F0000
      = w &&& 0xF80F0000 := by
    split
    · exact and_not_and_of_disjoint hsel w
    · split
      · rw [or_and_mask, hsel, or_zero_word]
      · rfl
  rw [hval]
  dsimp only
  split
  · exact (merge_and_of_disjoint (by decide) _ _).trans hmasked
  · exact hmasked

/-- R454: SETEND writes E alone. -/
theorem putBit_from (w : Word) (e : Bool) (flags : Word) : CpsrFrom flags w (putBit w 9 e) := by
  have hrest : putBit w 9 e &&& 0xFFFFFDFF = w &&& 0xFFFFFDFF := merge_and_of_disjoint (by decide) w _
  refine ⟨?_, fun hm => ?_, fun hx => ?_, slice_congr hrest 20 4 (by decide)⟩
  · refine and_congr_of_subset hrest ?_
    rw [← BitVec.and_assoc]
    rfl
  · rw [psrM_congr (and_congr_of_subset hrest (by decide)), hm]
  · rw [execStateFault_congr (and_congr_of_subset hrest (by decide)), hx]

/-- R491: an MRC with t = 15 writes N, Z, C and V. -/
theorem putSlice_from (w : Word) (v : BitVec 4) : CpsrFrom 0xF0000000 w (putSlice w 28 v) :=
  .of_flags (merge_and_of_disjoint (by decide) w _)

end Sys2Proof.Machine
end

section
/-! SUPPORT. How an instruction ends, said once: its condition failed, its body completed, or its body was abandoned at an
exception (`Instr.EndsIn`); what each body may change in the second case (`Instr.Completes`) and in the third
(`Instr.Abandons`). The invariant and the frame statements O7, O11, O12 and O13 (spec/10_state.md) are uses of it. -/

namespace Sys2Proof.Machine

/-! ### Results with two properties -/

/-- The state that the result completes in has the property `P`, an exception and the state it stops in the property `E`. -/
def Res.Obeys {α : Type} (P : State → Prop) (E : Exc → State → Prop) : Res α → Prop
  | .ok _ t => P t
  | .exc e t => E e t
  | .halt _ => True

@[simp] theorem Res.obeys_ok {α : Type} (P : State → Prop) (E : Exc → State → Prop) (a : α) (t : State) :
    (Res.ok a t).Obeys P E ↔ P t := Iff.rfl

@[simp] theorem Res.obeys_exc {α : Type} (P : State → Prop) (E : Exc → State → Prop) (e : Exc) (t : State) :
    (Res.exc e t : Res α).Obeys P E ↔ E e t := Iff.rfl

@[simp] theorem Res.obeys_halt {α : Type} (P : State → Prop) (E : Exc → State → Prop) (f : Fault) :
    (Res.halt f : Res α).Obeys P E := trivial

theorem Res.Obeys.mono {α : Type} {P Q : State → Prop} {E F : Exc → State → Prop} {r : Res α} (h : r.Obeys P E)
    (hP : ∀ t, P t → Q t) (hE : ∀ e t, E e t → F e t) : r.Obeys Q F := by
  cases r with
  | ok a t => exact hP t h
  | exc e t => exact hE e t h
  | halt f => trivial

theorem Res.Obeys.andThen {α β : Type} {P Q : State → Prop} {E : Exc → State → Prop} {r : Res α}
    {k : α → State → Res β} (h : r.Obeys P E) (hk : ∀ a t, P t → (k a t).Obeys Q E) : (r.andThen k).Obeys Q E := by
  cases r with
  | ok a t => exact hk a t h
  | exc e t => exact h
  | halt f => trivial

/-- A result that is no exception has any property of exceptions. -/
theorem Res.obeys_of_not_exc {α : Type} {P : State → Prop} {E F : Exc → State → Prop} {r : Res α} (h : r.Obeys P E)
    (hexc : ∀ e t, r ≠ .exc e t) : r.Obeys P F := by
  cases r with
  | ok a t => exact h
  | exc e t => exact absurd rfl (hexc e t)
  | halt f => trivial

/-- What every state of the result has, and what its exceptions have. -/
theorem Res.Leads.obeys {α : Type} {P : State → Prop} {E : Exc → State → Prop} {r : Res α} (h : r.Leads P)
    (hE : r.Obeys (fun _ => True) E) : r.Obeys P fun e t => E e t ∧ P t := by
  cases r with
  | ok a t => exact h
  | exc e t => exact ⟨hE, h⟩
  | halt f => trivial

/-! ### The exceptions that an instruction raises -/

/-- R533: every exception but the prefetch abort, which the fetch alone raises. -/
def Exc.ofInstruction : Exc → Bool
  | .prefetchAbort _ _ => false
  | _ => true

/-- If the result is an exception, it is one that an instruction raises. -/
def Res.Raises {α : Type} (r : Res α) : Prop := r.Obeys (fun _ => True) fun e _ => e.ofInstruction = true

theorem Res.Raises.andThen {α β : Type} {r : Res α} {k : α → State → Res β} (h : r.Raises) (hk : ∀ a t, (k a t).Raises) :
    (r.andThen k).Raises := Res.Obeys.andThen h fun a t _ => hk a t

/-- If the translation aborts, it is with an exception that an instruction raises. -/
def Xlat.Raises : Xlat → Prop
  | .abort e => e.ofInstruction = true
  | _ => True

theorem Xlat.raises_ite_halt {c : Prop} [Decidable c] {f : Fault} {x : Xlat} (h : x.Raises) :
    (if c then .halt f else x).Raises := by
  split
  · trivial
  · exact h

section Translation

variable {s : State} {va : Word} {acc : Access}

/-- R110: the fault of a data access is a data abort. -/
theorem Access.fault_raises (hd : acc.fetch = false) (status : FaultStatus) : (acc.fault va status).Raises := by
  simp [Access.fault, hd, Xlat.Raises, Exc.ofInstruction]

theorem State.checkExecute_raises (hd : acc.fetch = false) (level : Level) (xn : Bool) (pa : Word) :
    (s.checkExecute va acc level xn pa).Raises := by
  simp [State.checkExecute, hd, Xlat.Raises]

theorem State.checkDomain_raises (hd : acc.fetch = false) (level : Level) (d : BitVec 4) (ap2 : Bool) (ap10 : BitVec 2)
    (xn : Bool) (pa : Word) : (s.checkDomain va acc level d ap2 ap10 xn pa).Raises := by
  unfold State.checkDomain
  split
  · exact Access.fault_raises hd _
  · split
    · exact State.checkExecute_raises hd _ _ _
    · exact Access.fault_raises hd _
    · trivial
  · trivial
  · exact State.checkExecute_raises hd _ _ _

theorem State.walkPage_raises (hd : acc.fetch = false) (d1 d2 : Word) : (s.walkPage va acc d1 d2).Raises := by
  unfold State.walkPage
  split
  · exact Access.fault_raises hd _
  · trivial
  · exact State.checkDomain_raises hd _ _ _ _ _ _

theorem State.walkFirst_raises (hd : acc.fetch = false) (d1 : Word) : (s.walkFirst va acc d1).Raises := by
  unfold State.walkFirst
  split
  · exact State.walkPage_raises hd _ _
  · split
    · trivial
    · exact State.checkDomain_raises hd _ _ _ _ _ _
  · exact Access.fault_raises hd _

theorem State.translate_raises (hd : acc.fetch = false) : (s.translate va acc).Raises := by
  unfold State.translate
  split
  · trivial
  · exact Xlat.raises_ite_halt (Xlat.raises_ite_halt (Xlat.raises_ite_halt (State.walkFirst_raises hd _)))

theorem translateThen_raises {α : Type} {k : Word → Res α} (hd : acc.fetch = false) (hk : ∀ pa, (k pa).Raises) :
    (translateThen va acc s k).Raises := by
  have h := State.translate_raises (s := s) (va := va) hd
  unfold translateThen
  split
  · exact hk _
  · rename_i e he
    rw [he] at h
    exact h
  · trivial

end Translation

theorem readSplit_raises {acc : Access} (hd : acc.fetch = false) (s : State) :
    ∀ (n : Nat) (va : Word), (readSplit va acc s n).Raises
  | 0, _ => trivial
  | n + 1, va => translateThen_raises hd fun _ => (readSplit_raises hd s n (va + 1)).andThen fun _ _ => trivial

theorem writeSplit_raises {acc : Access} (hd : acc.fetch = false) :
    ∀ (n : Nat) (va v : Word) (s : State), (writeSplit va acc v s n).Raises
  | 0, _, _, _ => trivial
  | n + 1, va, v, _ => translateThen_raises hd fun _ => writeSplit_raises hd n (va + 1) (v >>> 8) _

/-- R107: a data read raises data aborts only. -/
theorem memRead_raises {acc : Access} (hd : acc.fetch = false) (va : Word) (w : Width) (s : State) :
    (memRead va w acc s).Raises := by
  have whole : (readWhole va w acc s).Raises := translateThen_raises hd fun _ => trivial
  unfold memRead
  split
  · trivial
  · split
    · exact whole
    · split
      · exact readSplit_raises hd s _ va
      · split
        · rfl
        · exact whole

/-- R107: so does a write. -/
theorem memWrite_raises {acc : Access} (hd : acc.fetch = false) (va : Word) (w : Width) (v : Word) (s : State) :
    (memWrite va w v acc s).Raises := by
  have whole : (writeWhole va w v acc s).Raises := translateThen_raises hd fun _ => trivial
  unfold memWrite
  split
  · trivial
  · split
    · exact whole
    · split
      · exact writeSplit_raises hd _ va v s
      · split
        · rfl
        · exact whole

theorem bxWritePC_raises (a : Word) (s : State) : (bxWritePC a s).Raises := by
  unfold bxWritePC
  split
  · trivial
  · split <;> trivial

theorem loadBody_raises (w : Width) (u sp : Bool) (ext : Word → Word) (ad : Addressing) (rn rt : Reg) (s : State) :
    (loadBody w u sp ext ad rn rt s).Raises :=
  (memRead_raises rfl _ _ s).andThen fun _ _ => trivial

theorem loadWordBody_raises (ad : Addressing) (rn rt : Reg) (s : State) : (loadWordBody ad rn rt s).Raises := by
  refine (memRead_raises rfl _ _ s).andThen fun v t => ?_
  split
  · split
    · exact bxWritePC_raises v _
    · trivial
  · trivial

theorem storeBody_raises (w : Width) (u sp : Bool) (ad : Addressing) (rn rt : Reg) (s : State) :
    (storeBody w u sp ad rn rt s).Raises :=
  (memWrite_raises rfl _ _ _ s).andThen fun _ _ => trivial

theorem keepBase_raises (rn : Reg) (s : State) {r : Res Unit} (h : r.Raises) : (keepBase rn s r).Raises := by
  cases r with
  | ok a t => trivial
  | exc e t => exact h
  | halt f => trivial

theorem loadDualBody_raises (ad : Addressing) (rn rt : Reg) (s : State) : (loadDualBody ad rn rt s).Raises := by
  refine (memRead_raises rfl _ _ s).andThen fun lo t => ?_
  have h := memRead_raises (acc := readAccess false false) rfl (ad.address + 4) .word t
  split
  · trivial
  · rename_i e u hr
    rw [hr] at h
    exact h
  · trivial

theorem storeDualBody_raises (ad : Addressing) (rn rt : Reg) (s : State) : (storeDualBody ad rn rt s).Raises :=
  (memWrite_raises rfl _ _ _ s).andThen fun _ t => (memWrite_raises rfl _ _ _ t).andThen fun _ _ => trivial

/-- R411, R422: the load loop raises what its reads and its continuation raise. -/
theorem loadList_raises (m : Mode) {k : Word → State → Res Unit} (hk : ∀ a t, (k a t).Raises) :
    ∀ (rs : List Reg) (a : Word) (s : State), (loadList m k rs a s).Raises
  | [], a, s => hk a s
  | r :: rs, a, s => by
    refine (memRead_raises rfl _ _ s).andThen fun v t => ?_
    have h := loadList_raises m hk rs (a + 4) (t.setRmode m r v)
    split
    · rename_i e u hr
      rw [hr] at h
      exact h
    · trivial
    · trivial

theorem storeList_raises (m : Mode) : ∀ (rs : List Reg) (a : Word) (s : State), (storeList m rs a s).Raises
  | [], _, _ => trivial
  | _ :: rs, a, s => (memWrite_raises rfl _ _ _ s).andThen fun _ t => storeList_raises m rs (a + 4) t

theorem ldmBody_raises (p u w : Bool) (rn : Reg) (registers : BitVec 16) (s : State) :
    (ldmBody p u w rn registers s).Raises := by
  refine keepBase_raises rn s (loadList_raises _ (fun a t => ?_) _ _ s)
  split
  · exact (memRead_raises rfl _ _ t).andThen fun v x => (bxWritePC_raises v x).andThen fun _ _ => trivial
  · trivial

theorem stmBody_raises (p u w : Bool) (rn : Reg) (registers : BitVec 16) (s : State) :
    (stmBody p u w rn registers s).Raises :=
  (storeList_raises _ _ _ s).andThen fun _ _ => trivial

theorem ldmUserBody_raises (o : LdmUserOp) (s : State) : (ldmUserBody o s).Raises := by
  unfold ldmUserBody
  split
  · trivial
  · exact keepBase_raises _ s (loadList_raises _ (k := fun _ t => .done t) (fun _ _ => trivial) _ _ s)

theorem stmUserBody_raises (o : StmUserOp) (s : State) : (stmUserBody o s).Raises := by
  unfold stmUserBody
  split
  · trivial
  · exact storeList_raises _ _ _ s

theorem ldrexBody_raises (rn rt : Reg) (s : State) : (ldrexBody rn rt s).Raises :=
  (memRead_raises rfl _ _ s).andThen fun _ _ => translateThen_raises rfl fun _ => trivial

theorem strexBody_raises (rn rd rt : Reg) (s : State) : (strexBody rn rd rt s).Raises := by
  refine translateThen_raises rfl fun pa => ?_
  split
  · exact (memWrite_raises rfl _ _ _ s).andThen fun _ _ => trivial
  · trivial

/-! ### What a body changes -/

end Sys2Proof.Machine

namespace Sys2Proof

open Machine

/-- What the completed body of an instruction changes of the state it starts in: registers and drawn values freely, memory
within its canonical form, a word-aligned PC write, and of the rest what the instruction is for. -/
structure Instr.Completes (i : Instr) (s t : State) : Prop where
  pc : t.pc = s.pc
  pending : PendingFrom s.pendingBranch t.pendingBranch
  mem : s.mem.wf = true → t.mem.wf = true
  cpsr : CpsrFrom i.flagsWritten s.cpsr t.cpsr
  spsr : t.spsr = s.spsr ∨ (i.writesSpsr = true ∧ ∃ v, t.spsr = s.spsr.set s.mode v)
  cp15 : t.cp15 = s.cp15 ∨ ∃ o n v, i = .mcrP15 o ∧ t.cp15 = s.cp15.written s.params.cfgnmfi n v
  waiting : (∀ o, i ≠ .wfi o) → t.waiting = s.waiting
  monitor : i.mayChangeMonitor = false → t.monitor = s.monitor

/-- What the body of an instruction has changed where an exception abandons it: no status register and no CP15 register. -/
structure Instr.Abandons (i : Instr) (s t : State) : Prop where
  pc : t.pc = s.pc
  mem : s.mem.wf = true → t.mem.wf = true
  cpsr : t.cpsr = s.cpsr
  spsr : t.spsr = s.spsr
  cp15 : t.cp15 = s.cp15
  waiting : t.waiting = s.waiting
  monitor : i.mayChangeMonitor = false → t.monitor = s.monitor

/-- The result of a body: it completes, is abandoned at an exception that an instruction raises, or halts. -/
def Instr.Ends (i : Instr) (s : State) (r : Res Unit) : Prop :=
  r.Obeys (i.Completes s) fun e t => e.ofInstruction = true ∧ i.Abandons s t

section Frames

variable {i : Instr} {s t : State}

theorem Instr.Completes.refl (i : Instr) (s : State) : i.Completes s s :=
  ⟨rfl, .inl rfl, id, .refl _ _, .inl rfl, .inl rfl, fun _ => rfl, fun _ => rfl⟩

theorem Instr.Abandons.refl (i : Instr) (s : State) : i.Abandons s s := ⟨rfl, id, rfl, rfl, rfl, rfl, fun _ => rfl⟩

theorem Instr.Completes.of_loaded (h : s.LoadedFrom t) : i.Completes s t := by
  obtain ⟨c, d, pb, rfl, hp⟩ := h
  exact ⟨rfl, hp, id, .refl _ _, .inl rfl, .inl rfl, fun _ => rfl, fun _ => rfl⟩

theorem Instr.Abandons.of_loaded (h : s.LoadedFrom t) : i.Abandons s t := by
  obtain ⟨c, d, pb, rfl, -⟩ := h
  exact ⟨rfl, id, rfl, rfl, rfl, rfl, fun _ => rfl⟩

theorem Instr.Completes.of_stored (h : s.StoredBackFrom t) : i.Completes s t := by
  obtain ⟨c, m, rfl, hm⟩ := h
  exact ⟨rfl, .inl rfl, hm, .refl _ _, .inl rfl, .inl rfl, fun _ => rfl, fun _ => rfl⟩

theorem Instr.Abandons.of_stored (h : s.StoredBackFrom t) : i.Abandons s t := by
  obtain ⟨c, m, rfl, hm⟩ := h
  exact ⟨rfl, hm, rfl, rfl, rfl, rfl, fun _ => rfl⟩

/-- A write of CPSR after the rest. -/
theorem Instr.Completes.withCpsr (h : i.Completes s t) {c : Word} (hc : CpsrFrom i.flagsWritten t.cpsr c) :
    i.Completes s { t with cpsr := c } :=
  ⟨h.pc, h.pending, h.mem, h.cpsr.trans hc, h.spsr, h.cp15, h.waiting, h.monitor⟩

/-- A PC write after the rest. -/
theorem Instr.Completes.branch (h : i.Completes s t) (a : Word) : i.Completes s (t.branchWritePC a) := by
  obtain ⟨c, d, pb, heq, hp⟩ := t.branchWritePC_loaded a
  refine ⟨h.pc, ?_, h.mem, h.cpsr, h.spsr, h.cp15, h.waiting, h.monitor⟩
  rw [heq]
  rcases hp with hp | hp
  · exact hp ▸ h.pending
  · exact .inr hp

/-- R51: of an instruction that may change the monitor, the monitor before it may be any. -/
theorem Instr.Completes.of_monitor (hm : i.mayChangeMonitor = true) {mon : Monitor}
    (h : i.Completes { s with monitor := mon } t) : i.Completes s t :=
  ⟨h.pc, h.pending, h.mem, h.cpsr, h.spsr, h.cp15, h.waiting, fun hf => absurd (hm.symm.trans hf) (by decide)⟩

theorem Instr.Abandons.of_monitor (hm : i.mayChangeMonitor = true) {mon : Monitor}
    (h : i.Abandons { s with monitor := mon } t) : i.Abandons s t :=
  ⟨h.pc, h.mem, h.cpsr, h.spsr, h.cp15, h.waiting, fun hf => absurd (hm.symm.trans hf) (by decide)⟩

/-- A body all whose states have a property that both ends ask for. -/
theorem Instr.Ends.of_leads {P : State → Prop} {r : Res Unit} (h : r.Leads P) (hr : r.Raises)
    (hc : ∀ t, P t → i.Completes s t) (ha : ∀ t, P t → i.Abandons s t) : i.Ends s r :=
  (h.obeys hr).mono hc fun _ t ⟨he, ht⟩ => ⟨he, ha t ht⟩

theorem Instr.Ends.of_loads {r : Res Unit} (h : r.Leads s.LoadedFrom) (hr : r.Raises) : i.Ends s r :=
  .of_leads h hr (fun _ => .of_loaded) fun _ => .of_loaded

theorem Instr.Ends.of_stores {r : Res Unit} (h : r.Leads s.StoredBackFrom) (hr : r.Raises) : i.Ends s r :=
  .of_leads h hr (fun _ => .of_stored) fun _ => .of_stored

/-- A body that raises no exception. -/
theorem Instr.Ends.of_ok {r : Res Unit} (hok : ∀ t, r = .ok () t → i.Completes s t) (hexc : ∀ e t, r ≠ .exc e t) :
    i.Ends s r := by
  cases r with
  | ok a t => exact hok t rfl
  | exc e t => exact absurd rfl (hexc e t)
  | halt f => trivial

end Frames

/-! ### The bodies

First those whose exceptions stop at a load: the loads change no status register, whatever is done after them. -/

section Loads

variable {i : Instr} {s : State}

/-- What starts where loads ended. -/
theorem Instr.Ends.after_loads {t : State} {r : Res Unit} (h : s.LoadedFrom t) (hr : i.Ends t r) : i.Ends s r := by
  obtain ⟨c, d, pb, rfl, hp⟩ := h
  refine hr.mono (fun u hu => ?_) fun e u ⟨he, hu⟩ => ⟨he, hu.pc, hu.mem, hu.cpsr, hu.spsr, hu.cp15, hu.waiting, hu.monitor⟩
  refine ⟨hu.pc, ?_, hu.mem, hu.cpsr, hu.spsr, hu.cp15, hu.waiting, hu.monitor⟩
  rcases hu.pending with hu | hu
  · exact hu ▸ hp
  · exact .inr hu

theorem blockRead_ends {t : State} (h : s.LoadedFrom t) (a : Word) :
    (blockRead a t).Obeys s.LoadedFrom fun e u => e.ofInstruction = true ∧ s.LoadedFrom u :=
  ((memRead_leads a _ _ t).mono fun _ hu => hu ▸ h).obeys (memRead_raises rfl a _ t)

theorem keepBase_ends {P : State → Prop} (rn : Reg) {r : Res Unit}
    (h : r.Obeys P fun e u => e.ofInstruction = true ∧ s.LoadedFrom u) (b : State) :
    (keepBase rn b r).Obeys P fun e u => e.ofInstruction = true ∧ s.LoadedFrom u := by
  cases r with
  | ok a t => exact h
  | exc e t =>
    obtain ⟨he, ht⟩ := h
    exact ⟨he, ht.trans (t.setReg_loaded rn _)⟩
  | halt f => trivial

/-- R411: the load loop completes as its continuation does, and is abandoned with registers changed only. -/
theorem loadList_ends {P : State → Prop} (m : Mode) {k : Word → State → Res Unit}
    (hk : ∀ a t, s.LoadedFrom t → (k a t).Obeys P fun e u => e.ofInstruction = true ∧ s.LoadedFrom u) :
    ∀ (rs : List Reg) (a : Word) (t : State), s.LoadedFrom t →
      (loadList m k rs a t).Obeys P fun e u => e.ofInstruction = true ∧ s.LoadedFrom u
  | [], a, t, ht => hk a t ht
  | r :: rs, a, t, ht => by
    refine (blockRead_ends ht a).andThen fun v u hu => ?_
    have h := loadList_ends m hk rs (a + 4) _ (hu.set m r v)
    split
    · rename_i e x hr
      rw [hr] at h
      exact ⟨h.1, h.2.trans (x.drawReg_loaded m r)⟩
    · rename_i x y hr
      rw [hr] at h
      exact h
    · trivial

end Loads

section Bodies

variable {i : Instr} (s : State)

theorem Instr.ends_setReg (rd : Reg) (v : Word) : i.Ends s (.done (s.setReg rd v)) :=
  Instr.Completes.of_loaded (s.setReg_loaded rd v)

theorem Instr.ends_bx (a : Word) : i.Ends s (bxWritePC a s) := .of_loads (bxWritePC_leads a s) (bxWritePC_raises a s)

/-- R403: the link register, then the branch. -/
theorem Instr.ends_linkBx (a v : Word) : i.Ends s (bxWritePC a (s.setReg lrReg v)) :=
  .of_loads ((bxWritePC_leads a _).mono fun _ => (s.setReg_loaded lrReg v).trans) (bxWritePC_raises a _)

theorem Instr.ends_load (w : Width) (u sp : Bool) (ext : Word → Word) (ad : Addressing) (rn rt : Reg) :
    i.Ends s (loadBody w u sp ext ad rn rt s) :=
  .of_loads (loadBody_leads w u sp ext ad rn rt s) (loadBody_raises w u sp ext ad rn rt s)

theorem Instr.ends_loadWord (ad : Addressing) (rn rt : Reg) : i.Ends s (loadWordBody ad rn rt s) :=
  .of_loads (loadWordBody_leads ad rn rt s) (loadWordBody_raises ad rn rt s)

theorem Instr.ends_loadDual (ad : Addressing) (rn rt : Reg) : i.Ends s (loadDualBody ad rn rt s) :=
  .of_loads (loadDualBody_leads ad rn rt s) (loadDualBody_raises ad rn rt s)

theorem Instr.ends_store (w : Width) (u sp : Bool) (ad : Addressing) (rn rt : Reg) :
    i.Ends s (storeBody w u sp ad rn rt s) :=
  .of_stores (storeBody_leads w u sp ad rn rt s) (storeBody_raises w u sp ad rn rt s)

theorem Instr.ends_storeDual (ad : Addressing) (rn rt : Reg) : i.Ends s (storeDualBody ad rn rt s) :=
  .of_stores (storeDualBody_leads ad rn rt s) (storeDualBody_raises ad rn rt s)

theorem Instr.ends_ldm (p u w : Bool) (rn : Reg) (registers : BitVec 16) : i.Ends s (ldmBody p u w rn registers s) :=
  .of_loads (ldmBody_leads p u w rn registers s) (ldmBody_raises p u w rn registers s)

theorem Instr.ends_stm (p u w : Bool) (rn : Reg) (registers : BitVec 16) : i.Ends s (stmBody p u w rn registers s) :=
  .of_stores (stmBody_leads p u w rn registers s) (stmBody_raises p u w rn registers s)

theorem Instr.ends_ldmUser (o : LdmUserOp) : i.Ends s (ldmUserBody o s) :=
  .of_loads (ldmUserBody_leads o s) (ldmUserBody_raises o s)

theorem Instr.ends_stmUser (o : StmUserOp) : i.Ends s (stmUserBody o s) :=
  .of_stores ((stmUserBody_leads o s).mono fun _ => State.StoredFrom.back) (stmUserBody_raises o s)

theorem Instr.ends_ldrex (hm : i.mayChangeMonitor = true) (rn rt : Reg) : i.Ends s (ldrexBody rn rt s) :=
  .of_leads (ldrexBody_leads rn rt s) (ldrexBody_raises rn rt s) (fun _ ⟨_, h⟩ => .of_monitor hm (.of_loaded h))
    fun _ ⟨_, h⟩ => .of_monitor hm (.of_loaded h)

theorem Instr.ends_strex (hm : i.mayChangeMonitor = true) (rn rd rt : Reg) : i.Ends s (strexBody rn rd rt s) :=
  .of_leads (strexBody_leads rn rd rt s) (strexBody_raises rn rd rt s) (fun _ ⟨_, h⟩ => .of_monitor hm (.of_stored h))
    fun _ ⟨_, h⟩ => .of_monitor hm (.of_stored h)

/-- R527: an exception return may write every flag; its target is word aligned. -/
theorem Instr.ends_exceptionReturn (hf : i.flagsWritten = 0xF80F0000) (target : Word) : i.Ends s (exceptionReturn target s) := by
  refine .of_ok (fun t ht => ?_) fun e t => exceptionReturn_not_exc
  obtain ⟨spsr, -, -, harm, hmode, rfl⟩ := exceptionReturn_ok ht
  refine Instr.Completes.branch (Instr.Completes.withCpsr (.refl i s) ?_) target
  exact State.cpsrWritten_from harm (fun _ => hmode) (by simp [hf])

/-- R223: the destination write of data processing, with the flags of an S form. -/
theorem Instr.ends_writeDP {rd : Reg} {sf : Bool} {result : Word} {c v : Bool}
    (hret : sf = true → rd = pcReg → i.flagsWritten = 0xF80F0000)
    (hset : sf = true → rd ≠ pcReg →
      CpsrFrom i.flagsWritten s.cpsr (setNZCV s.cpsr (bit result 31) (result == 0) c v)) :
    i.Ends s (writeDP rd sf result c v s) := by
  unfold writeDP
  split
  · split
    · exact Instr.ends_exceptionReturn s (hret ‹_› ‹_›) result
    · exact Instr.ends_bx s result
  · have hreg : i.Completes s (s.setReg rd result) := .of_loaded (s.setReg_loaded rd result)
    split
    · exact hreg.withCpsr (by simpa using hset ‹_› ‹_›)
    · exact hreg

/-- R230 to R245: an operation with a destination, whose S form returns from an exception with Rd = 15. -/
theorem Instr.ends_dp {op : DpOp} {sf : Bool} {rd : Reg} (rn : Reg) (operand : Word × Bool)
    (hret : sf = true → rd = pcReg → i.flagsWritten = 0xF80F0000)
    (hset : sf = true → rd ≠ pcReg → i.flagsWritten = op.flags) : i.Ends s (dpBody op sf rd rn operand s) :=
  Instr.ends_writeDP s hret fun h h' => hset h h' ▸ setNZCV_eval_from op _ _ _ _ _ _ _

/-- R243, R245 to R254: a move keeps V. -/
theorem Instr.ends_move {sf : Bool} {rd : Reg} (operand : Word × Bool)
    (hret : sf = true → rd = pcReg → i.flagsWritten = 0xF80F0000)
    (hset : sf = true → rd ≠ pcReg → i.flagsWritten = 0xE0000000) : i.Ends s (moveBody sf rd operand s) :=
  Instr.ends_writeDP s hret fun h h' => hset h h' ▸ setNZCV_keepV_from _ _ _ _

theorem Instr.ends_test {op : DpOp} (rn : Reg) (operand : Word × Bool) (hset : i.flagsWritten = op.flags) :
    i.Ends s (testBody op rn operand s) :=
  (Instr.Completes.refl i s).withCpsr (hset ▸ setNZCV_eval_from op _ _ _ _ _ _ _)

/-- R280 to R286: the flags of a multiply after its destination. -/
theorem Instr.Completes.mulFlags {t : State} (h : i.Completes s t) {sf : Bool} (n z : Bool)
    (hset : sf = true → i.flagsWritten = 0xC0000000) : i.Completes s (t.mulFlags sf n z) := by
  unfold State.mulFlags
  split
  · exact h.withCpsr (hset ‹_› ▸ setNZ_from _ _ _)
  · exact h

theorem Instr.ends_mul {sf : Bool} (rd : Reg) (result : Word) (hset : sf = true → i.flagsWritten = 0xC0000000) :
    i.Ends s (mulWrite rd sf result s) :=
  Instr.Completes.mulFlags s (.of_loaded (s.setReg_loaded rd result)) _ _ hset

theorem Instr.ends_mulLong {sf : Bool} (rdHi rdLo : Reg) (result : BitVec 64)
    (hset : sf = true → i.flagsWritten = 0xC0000000) : i.Ends s (mulLongWrite rdHi rdLo sf result s) :=
  Instr.Completes.mulFlags s (.of_loaded ((s.setReg_loaded rdHi _).trans (State.setReg_loaded _ rdLo _))) _ _ hset

theorem Instr.ends_mrs (r : Bool) (rd : Reg) : i.Ends s (mrsBody r rd s) := by
  unfold mrsBody
  split
  · split
    · trivial
    · exact Instr.ends_setReg s rd _
  · exact Instr.ends_setReg s rd _

/-- R451, R452: an MSR of an SPSR writes that of the mode, an MSR of CPSR the flags of its mask. -/
theorem Instr.ends_msr {r : Bool} {mask : BitVec 4} (value : Word) (hspsr : i.writesSpsr = r)
    (hset : r = false → i.flagsWritten = msrFlags mask) : i.Ends s (msrBody r mask value s) := by
  unfold msrBody
  split
  · refine .of_ok (fun t ht => ?_) fun e t => spsrWriteByInstr_not_exc
    obtain ⟨old, -, rfl⟩ := spsrWriteByInstr_ok ht
    exact ⟨rfl, .inl rfl, id, .refl _ _, .inr ⟨hspsr.trans ‹_›, _, rfl⟩, .inl rfl, fun _ => rfl, fun _ => rfl⟩
  · refine .of_ok (fun t ht => ?_) fun e t => cpsrWriteByInstr_not_exc
    obtain ⟨rfl, harm, hmode⟩ := cpsrWriteByInstr_ok ht
    refine (Instr.Completes.refl i s).withCpsr (State.cpsrWritten_from harm hmode ?_)
    rw [hset (eq_false_of_ne_true ‹_›)]
    exact merge_and_of_disjoint (cpsrWriteMask_msrFlags _ _ _) _ _

/-- R453: CPS writes no flag. -/
theorem Instr.ends_cps (o : CpsOp) (hset : i.flagsWritten = 0) :
    i.Ends s (if s.privileged then cpsrWriteByInstr (cpsValue o s.cpsr) 0b1111 false s else .done s) := by
  split
  · refine .of_ok (fun t ht => ?_) fun e t => cpsrWriteByInstr_not_exc
    obtain ⟨rfl, harm, hmode⟩ := cpsrWriteByInstr_ok ht
    refine (Instr.Completes.refl i s).withCpsr (State.cpsrWritten_from harm hmode ?_)
    rw [hset]
    exact merge_and_of_agree (cpsValue_flags o s.cpsr)
  · exact Instr.Completes.refl i s

/-- R490: an MCR makes the write effect of a register, or takes the Undefined Instruction exception. -/
theorem Instr.ends_mcr (o : Cp15Op) (k : Cp15Key) (v : Word) : (Instr.mcrP15 o).Ends s (cp15WriteBody k v s) := by
  unfold cp15WriteBody
  split
  · trivial
  · split
    · trivial
    · split
      · exact ⟨rfl, .refl _ s⟩
      · exact ⟨rfl, .inl rfl, id, .refl _ _, .inl rfl, .inr ⟨o, _, _, rfl, rfl⟩, fun _ => rfl, fun _ => rfl⟩

/-- R491: an MRC writes a register, or N, Z, C and V. -/
theorem Instr.completes_mrcWrite {rt : Reg} (hset : rt = pcReg → i.flagsWritten = 0xF0000000) (v : Word) :
    i.Completes s (mrcWrite rt v s) := by
  unfold mrcWrite
  split
  · exact (Instr.Completes.refl i s).withCpsr (hset ‹_› ▸ putSlice_from _ _)
  · exact .of_loaded (s.setReg_loaded rt v)

theorem Instr.ends_mrc {rt : Reg} (hset : rt = pcReg → i.flagsWritten = 0xF0000000) (k : Cp15Key) :
    i.Ends s ((cp15ReadBody k s).andThen fun v t => .done (mrcWrite rt v t)) := by
  unfold cp15ReadBody
  split
  · trivial
  · split
    · trivial
    · split
      · exact ⟨rfl, .refl i s⟩
      · exact Instr.completes_mrcWrite s hset _

/-- R467: WFI starts a wait, or nothing. -/
theorem Instr.ends_wfi (o : HintOp) :
    (Instr.wfi o).Ends s (.done (if s.irqPending || s.fiqPending then s else { s with waiting := true })) := by
  split
  · exact Instr.Completes.refl _ s
  · exact ⟨rfl, .inl rfl, id, .refl _ _, .inl rfl, .inl rfl, fun h => absurd rfl (h o), fun _ => rfl⟩

/-- R421: LDM (exception return): its loads may abort, before the return that writes CPSR and raises nothing. -/
theorem Instr.ends_ldmExc (hf : i.flagsWritten = 0xF80F0000) (o : LdmExcOp) : i.Ends s (ldmExcBody o s) := by
  unfold ldmExcBody
  split
  · trivial
  · refine (keepBase_ends o.rn (loadList_ends (P := i.Completes s) _ (fun a t h => ?_) _ _ s (.refl s)) s).mono
      (fun _ => id) fun e u ⟨he, hu⟩ => ⟨he, .of_loaded hu⟩
    refine (blockRead_ends h a).andThen fun v u hu => ?_
    have hback : s.LoadedFrom (if o.w then u.setReg o.rn (blockEnd o.u (s.reg o.rn) (bitCount o.registers + 1)) else u) := by
      split
      · exact hu.set _ _ _
      · exact hu
    exact Res.obeys_of_not_exc (Instr.Ends.after_loads hback (Instr.ends_exceptionReturn _ hf v))
      fun _ _ => exceptionReturn_not_exc

end Bodies

end Sys2Proof
end

section
/-! SUPPORT. Every instruction's end: `exec_endsIn` says once for all instructions how a next state came about. -/

namespace Sys2Proof

open Machine

/-- R13, R14: how an instruction that gives the next state `t` ended: its condition failed, its body completed, or its body
was abandoned and the exception taken. -/
inductive Instr.EndsIn (i : Instr) (s t : State) : Prop
  | skipped (ht : t = s.advance)
  | completed {u : State} (hu : i.Completes { s with pendingBranch := none } u) (ht : t = u.commit)
  | abandoned {e : Exc} {u : State} (he : e.ofInstruction = true) (hu : i.Abandons s u) (ht : raise e u = .next t)

/-- R13: an instruction whose body ends as it should. The UNPREDICTABLE cases are excluded. -/
theorem Instr.endsIn_runInstr {i : Instr} {cond : Cond} {cases : List (Bool × Unpred)} {body : State → Res Unit} {s t : State}
    (h : exec i s = .next t) (hexec : exec i s = runInstr cond cases s body)
    (hbody : cases.any Prod.fst = false → ∀ s, i.Ends s (body s)) : i.EndsIn s t := by
  obtain ⟨hcases, ⟨-, rfl⟩ | ⟨-, hf⟩⟩ := runInstr_next (hexec.symm.trans h)
  · exact .skipped rfl
  · have hends := hbody (firstCase_eq_none.mp hcases) { s with pendingBranch := none }
    obtain ⟨u, hu, rfl⟩ | ⟨e, u, hu, he⟩ := finish_next hf
    · rw [hu] at hends
      exact .completed hends rfl
    · rw [hu] at hends
      obtain ⟨hi, ha⟩ := hends
      exact .abandoned hi ⟨ha.pc, ha.mem, ha.cpsr, ha.spsr, ha.cp15, ha.waiting, ha.monitor⟩ he

/-- R176: the same without a condition. -/
theorem Instr.endsIn_runAlways {i : Instr} {cases : List (Bool × Unpred)} {body : State → Res Unit} {s t : State}
    (h : exec i s = .next t) (hexec : exec i s = runAlways cases s body)
    (hbody : cases.any Prod.fst = false → ∀ s, i.Ends s (body s)) : i.EndsIn s t :=
  Instr.endsIn_runInstr h hexec hbody

/-- R191: the Undefined Instruction exception is taken from the state before the instruction. -/
theorem Instr.endsIn_undefined {i : Instr} {s t : State} (h : raise .undefined s = .next t) : i.EndsIn s t :=
  .abandoned rfl (.refl i s) h

/-- A halt gives no next state. -/
theorem Instr.endsIn_fault {i : Instr} {s t : State} {f : Fault} (h : Host.Outcome.fault f = (.next t : Out)) : i.EndsIn s t :=
  nomatch h

/-- R222: in a register-shifted form that is not UNPREDICTABLE the destination is not the PC. -/
theorem ne_pc_of_rsrPc {rd : Reg} {rs : List Reg} {rest : List (Bool × Unpred)}
    (h : (rest ++ [rsrPc (rd :: rs)]).any Prod.fst = false) : rd ≠ pcReg := by
  simp at h
  tauto

/-- R48: the flags of an S form are all of them where it returns from an exception, else those of its operation. -/
theorem sFormFlags_of_pc {sf : Bool} {rd : Reg} {m n : Word} (hs : sf = true) (h : rd = pcReg) :
    (if !sf then 0 else if rd = pcReg then m else n) = m := by
  rw [hs, if_pos h]
  rfl

theorem sFormFlags_of_ne_pc {sf : Bool} {rd : Reg} {m n : Word} (hs : sf = true) (h : rd ≠ pcReg) :
    (if !sf then 0 else if rd = pcReg then m else n) = n := by
  rw [hs, if_neg h]
  rfl

/-- R13, R14: an instruction with a next state ends in one of the three ways. The instructions are grouped by their body. -/
theorem exec_endsIn {i : Instr} {s t : State} (h : exec i s = .next t) : i.EndsIn s t := by
  cases i with
  | undefUncondMisc w | undefUncond1100000 w | mcrr2 o | stc2 o | cdp2 o | mcr2 o | undefUncondOther w
  | mrsMsrBanked w | eret w | hvc w | undefMisc w | undefMultiply0101 w | undefMultiply0111 w | undefSync w
  | udf o | undefCoproc00000 w | undefAnyOther w =>
    exact Instr.endsIn_undefined h
  | memHintImm w | pliImm o | pldwImm o | pldImm o | dsb o | dmb o | isb o | memHintReg w | pliReg o
  | pldwReg o | pldReg o =>
    refine Instr.endsIn_runAlways h (by dsimp only [exec]; rfl) ?_
    exact fun _ => Instr.Completes.refl _
  | nop o | yield o | wfe o | sev o | dbg o | hintUnallocated o =>
    refine Instr.endsIn_runInstr h (by dsimp only [exec]; rfl) ?_
    exact fun _ => Instr.Completes.refl _
  | wfi o =>
    refine Instr.endsIn_runInstr h (by dsimp only [exec]; rfl) ?_
    exact fun _ s => Instr.ends_wfi s o
  | cps o =>
    refine Instr.endsIn_runAlways h (by dsimp only [exec]; rfl) ?_
    exact fun _ s => Instr.ends_cps s o rfl
  | setend o =>
    refine Instr.endsIn_runAlways h (by dsimp only [exec]; rfl) ?_
    exact fun _ s => (Instr.Completes.refl _ s).withCpsr (putBit_from s.cpsr o.e _)
  | clrex o =>
    refine Instr.endsIn_runAlways h (by dsimp only [exec]; rfl) ?_
    exact fun _ s => Instr.Completes.of_monitor (mon := .idle) rfl (.refl _ _)
  | tstImm o | tstReg o | tstRsr o | teqImm o | teqReg o | teqRsr o | cmpImm o | cmpReg o | cmpRsr o
  | cmnImm o | cmnReg o | cmnRsr o =>
    refine Instr.endsIn_runInstr h (by dsimp only [exec]; rfl) ?_
    exact fun _ s => Instr.ends_test s o.rn _ rfl
  | svc o | mcrr o | stc o | cdp o | mcrOther o =>
    refine Instr.endsIn_runInstr h (by dsimp only [exec]; rfl) ?_
    exact fun _ s => ⟨rfl, .refl _ s⟩
  | mrs o =>
    refine Instr.endsIn_runInstr h (by dsimp only [exec]; rfl) ?_
    exact fun _ s => Instr.ends_mrs s o.r o.rd
  | msrReg o | msrImm o =>
    refine Instr.endsIn_runInstr h (by dsimp only [exec]; rfl) ?_
    refine fun _ s => Instr.ends_msr (r := o.r) s _ rfl fun hr => ?_
    simp [Instr.flagsWritten, hr, msrFlags]
  | mcrP15 o =>
    refine Instr.endsIn_runInstr h (by dsimp only [exec]; rfl) ?_
    exact fun _ s => Instr.ends_mcr s o _ _
  | mrcP15 o =>
    refine Instr.endsIn_runInstr h (by dsimp only [exec]; rfl) ?_
    exact fun _ s => Instr.ends_mrc (i := .mrcP15 o) s (fun hr => if_pos hr) _
  | b o =>
    refine Instr.endsIn_runInstr h (by dsimp only [exec]; rfl) ?_
    exact fun _ s => (Instr.Completes.refl _ s).branch _
  | bl o =>
    refine Instr.endsIn_runInstr h (by dsimp only [exec]; rfl) ?_
    exact fun _ s => (Instr.Completes.of_loaded (s.setReg_loaded lrReg _)).branch _
  | bx o | bxj o =>
    refine Instr.endsIn_runInstr h (by dsimp only [exec]; rfl) ?_
    exact fun _ s => Instr.ends_bx s _
  | blxReg o =>
    refine Instr.endsIn_runInstr h (by dsimp only [exec]; rfl) ?_
    exact fun _ s => Instr.ends_linkBx s _ _
  | clz o | movw o | movt o | sxtb16 o | sxtab16 o | sxtb o | sxtab o | sxth o | sxtah o | uxtb16 o
  | uxtab16 o | uxtb o | uxtab o | uxth o | uxtah o | rev o | rev16 o | revsh o | sbfx o | bfc o | bfi o
  | ubfx o =>
    refine Instr.endsIn_runInstr h (by dsimp only [exec]; rfl) ?_
    exact fun _ s => Instr.ends_setReg s o.rd _
  | andImm o | andReg o | eorImm o | eorReg o | subImm o | subReg o | rsbImm o | rsbReg o | addImm o
  | addReg o | adcImm o | adcReg o | sbcImm o | sbcReg o | rscImm o | rscReg o | orrImm o | orrReg o
  | bicImm o | bicReg o =>
    refine Instr.endsIn_runInstr h (by dsimp only [exec]; rfl) ?_
    exact fun _ s => Instr.ends_dp s o.rn _ sFormFlags_of_pc sFormFlags_of_ne_pc
  | andRsr o | eorRsr o | subRsr o | rsbRsr o | addRsr o | adcRsr o | sbcRsr o | rscRsr o | orrRsr o | bicRsr o =>
    refine Instr.endsIn_runInstr h (by dsimp only [exec]; rfl) ?_
    refine fun hc s => Instr.ends_dp s o.rn _ (fun _ hrd => ?_) fun hs _ => if_pos hs
    exact absurd hrd (ne_pc_of_rsrPc (rest := []) hc)
  | movImm o | movReg o | rrx o | lslImm o | lsrImm o | asrImm o | rorImm o | mvnImm o | mvnReg o =>
    refine Instr.endsIn_runInstr h (by dsimp only [exec]; rfl) ?_
    exact fun _ s => Instr.ends_move s _ sFormFlags_of_pc sFormFlags_of_ne_pc
  | lslReg o | lsrReg o | asrReg o | rorReg o | mvnRsr o =>
    refine Instr.endsIn_runInstr h (by dsimp only [exec]; rfl) ?_
    refine fun hc s => Instr.ends_move s _ (fun _ hrd => ?_) fun hs _ => if_pos hs
    exact absurd hrd (ne_pc_of_rsrPc (rest := [_]) hc)
  | mul o | mla o =>
    refine Instr.endsIn_runInstr h (by dsimp only [exec]; rfl) ?_
    exact fun _ s => Instr.ends_mul s o.rd _ fun hs => if_pos hs
  | mls o =>
    refine Instr.endsIn_runInstr h (by dsimp only [exec]; rfl) ?_
    exact fun _ s => Instr.ends_mul s o.rd _ fun hs => nomatch hs
  | umull o | umlal o | smull o | smlal o =>
    refine Instr.endsIn_runInstr h (by dsimp only [exec]; rfl) ?_
    exact fun _ s => Instr.ends_mulLong s o.rdHi o.rdLo _ fun hs => if_pos hs
  | ldrhtImm o | ldrhtReg o | ldrhImm o | ldrhReg o | ldrsbtImm o | ldrsbtReg o | ldrsbImm o | ldrsbReg o
  | ldrshtImm o | ldrshtReg o | ldrshImm o | ldrshReg o | ldrtImm o | ldrtReg o | ldrbtImm o | ldrbtReg o
  | ldrbImm o | ldrbReg o =>
    refine Instr.endsIn_runInstr h (by dsimp only [exec]; rfl) ?_
    exact fun _ s => Instr.ends_load s _ _ _ _ _ o.rn o.rt
  | strhtImm o | strhtReg o | strhImm o | strhReg o | strtImm o | strtReg o | strImm o | strReg o | strbtImm o
  | strbtReg o | strbImm o | strbReg o =>
    refine Instr.endsIn_runInstr h (by dsimp only [exec]; rfl) ?_
    exact fun _ s => Instr.ends_store s _ _ _ _ o.rn o.rt
  | ldrImm o | ldrReg o =>
    refine Instr.endsIn_runInstr h (by dsimp only [exec]; rfl) ?_
    exact fun _ s => Instr.ends_loadWord s _ o.rn o.rt
  | ldrdImm o | ldrdReg o =>
    refine Instr.endsIn_runInstr h (by dsimp only [exec]; rfl) ?_
    exact fun _ s => Instr.ends_loadDual s _ o.rn o.rt
  | strdImm o | strdReg o =>
    refine Instr.endsIn_runInstr h (by dsimp only [exec]; rfl) ?_
    exact fun _ s => Instr.ends_storeDual s _ o.rn o.rt
  | ldrex o =>
    refine Instr.endsIn_runInstr h (by dsimp only [exec]; rfl) ?_
    exact fun _ s => Instr.ends_ldrex s rfl o.rn o.rt
  | strex o =>
    refine Instr.endsIn_runInstr h (by dsimp only [exec]; rfl) ?_
    exact fun _ s => Instr.ends_strex s rfl o.rn o.rd o.rt
  | ldmda o | ldm o | ldmdb o | ldmib o =>
    refine Instr.endsIn_runInstr h (by dsimp only [exec]; rfl) ?_
    exact fun _ s => Instr.ends_ldm s _ _ o.w o.rn o.registers
  | stmda o | stm o | stmdb o | stmib o =>
    refine Instr.endsIn_runInstr h (by dsimp only [exec]; rfl) ?_
    exact fun _ s => Instr.ends_stm s _ _ o.w o.rn o.registers
  | ldmUser o =>
    refine Instr.endsIn_runInstr h (by dsimp only [exec]; rfl) ?_
    exact fun _ s => Instr.ends_ldmUser s o
  | stmUser o =>
    refine Instr.endsIn_runInstr h (by dsimp only [exec]; rfl) ?_
    exact fun _ s => Instr.ends_stmUser s o
  | ldmExcReturn o =>
    refine Instr.endsIn_runInstr h (by dsimp only [exec]; rfl) ?_
    exact fun _ s => Instr.ends_ldmExc s rfl o
  | qadd o | smc o | swp o => exact Instr.endsIn_fault ((apply_ite _ _ _ _).trans h)
  | _ => exact Instr.endsIn_fault h

end Sys2Proof
end

section
/-! SUPPORT. O7, O11, O12 and O13 (spec/10_state.md): what exception entry makes of the state, the invariant that every step
keeps, and what no instruction but the named ones changes. -/

namespace Sys2Proof.Machine

/-! ### Exception entry -/

/-- R522: every vector is word aligned. -/
theorem State.vector_aligned (s : State) (kind : ExcKind) : slice (s.vectorBase + kind.offset) 0 2 = 0 := by
  unfold State.vectorBase
  split <;> cases kind <;> decide

/-- R521: entry writes the mode of the exception and leaves IT, J and T zero. -/
theorem entryCpsr_state (kind : ExcKind) (cpsr sctlr : Word) :
    entryCpsr kind cpsr sctlr &&& 0x0700FC3F = kind.mode.bits.setWidth 32 &&& 0x0700FC3F := by
  refine (merge_and_of_subset (by cases kind <;> decide) _ _).trans ?_
  cases kind <;> cases bit sctlr 25 <;> decide

/-- R521: entry keeps the flags and the reserved bits. -/
theorem entryCpsr_kept (kind : ExcKind) (cpsr sctlr : Word) :
    entryCpsr kind cpsr sctlr &&& 0xF8FF0000 = cpsr &&& 0xF8FF0000 :=
  merge_and_of_disjoint (by cases kind <;> decide) _ _

theorem psrM_entryCpsr (kind : ExcKind) (cpsr sctlr : Word) : psrM (entryCpsr kind cpsr sctlr) = kind.mode.bits := by
  rw [psrM_congr (and_congr_of_subset (entryCpsr_state kind cpsr sctlr) (by decide))]
  cases kind <;> decide

theorem execStateFault_entryCpsr (kind : ExcKind) (cpsr sctlr : Word) :
    execStateFault (entryCpsr kind cpsr sctlr) = none := by
  rw [execStateFault_congr (and_congr_of_subset (entryCpsr_state kind cpsr sctlr) (by decide))]
  cases kind <;> decide

/-- R35: the encoding of a mode is no bad mode. -/
theorem badMode_bits (m : Mode) : badMode m.bits = false := by
  cases m <;> decide

/-- R530 to R533: a raised exception is an entry, of an abort from the state in which the fault recorder wrote; what an
instruction raises and the recorder records is a data abort. -/
theorem raise_enters {e : Exc} {s t : State} (h : raise e s = .next t) :
    ∃ (kind : ExcKind) (lr : Word) (u : State), t = u.enter kind lr ∧
      (u = s ∨ (∃ va st wr, u = s.setMemoryAbort va st wr) ∧ (e.ofInstruction = true → kind = .dataAbort)) := by
  obtain ⟨-, rfl⟩ | ⟨-, rfl⟩ | ⟨va, st, wr, -, rfl⟩ | ⟨va, st, rfl, rfl⟩ := raise_next h
  · exact ⟨_, _, _, rfl, .inl rfl⟩
  · exact ⟨_, _, _, rfl, .inl rfl⟩
  · exact ⟨_, _, _, rfl, .inr ⟨⟨va, st, wr, rfl⟩, fun _ => rfl⟩⟩
  · exact ⟨_, _, _, rfl, .inr ⟨⟨va, st, false, rfl⟩, fun hi => nomatch hi⟩⟩

/-! ### The fixed bits of SCTLR and TTBCR -/

/-- R62, R63: storing what was stored stores it again. -/
theorem sctlrStored_idem (c : Bool) (v : Word) : sctlrStored c (sctlrStored c v) = sctlrStored c v := by
  unfold sctlrStored
  ext j hj
  simp only [BitVec.getElem_or, BitVec.getElem_and]
  grind

/-- R62, R63, R66: SCTLR and TTBCR have their fixed bits. -/
def Cp15.Fixed (c : Cp15) (cfgnmfi : Bool) : Prop :=
  sctlrStored cfgnmfi c.sctlr = c.sctlr ∧ c.ttbcr &&& ttbcrMask = c.ttbcr

theorem Cp15.Fixed.written {c : Cp15} {cfgnmfi : Bool} (h : c.Fixed cfgnmfi) (n : Cp15Name) (v : Word) :
    (c.written cfgnmfi n v).Fixed cfgnmfi := by
  cases n with
  | sctlr => exact ⟨sctlrStored_idem cfgnmfi v, h.2⟩
  | ttbcr => exact ⟨h.1, by rw [Cp15.written, BitVec.and_assoc, BitVec.and_self]⟩
  | _ => exact h

/-! ### The invariant -/

/-- The parts of the invariant as propositions. -/
structure State.Invariant (s : State) : Prop where
  mem : s.mem.wf = true
  pc : slice s.pc 0 2 = 0
  mode : badMode (psrM s.cpsr) = false
  armState : execStateFault s.cpsr = none
  reserved : slice s.cpsr 20 4 = 0
  cp15 : s.cp15.Fixed s.params.cfgnmfi
  pending : s.pendingBranch = none

theorem State.inv_iff (s : State) : s.inv = true ↔ s.Invariant := by
  simp only [State.inv, State.memoryCanonical, State.pcAligned, State.legalMode, State.armState, State.cpsrReservedZero,
    State.sctlrFixed, State.ttbcrFixed, State.noPendingBranch, Bool.and_eq_true, Bool.not_eq_true', beq_iff_eq,
    Option.isNone_iff_eq_none]
  exact ⟨fun ⟨⟨⟨⟨⟨⟨⟨hm, hp⟩, hl⟩, ha⟩, hr⟩, hs⟩, ht⟩, hb⟩ => ⟨hm, hp, hl, ha, hr, ⟨hs, ht⟩, hb⟩,
    fun ⟨hm, hp, hl, ha, hr, ⟨hs, ht⟩, hb⟩ => ⟨⟨⟨⟨⟨⟨⟨hm, hp⟩, hl⟩, ha⟩, hr⟩, hs⟩, ht⟩, hb⟩⟩

/-- R14: four bytes on from an aligned address is an aligned address. -/
theorem aligned_add_four {a : Word} (h : slice a 0 2 = 0) : slice (a + 4) 0 2 = 0 := by
  have hn := congrArg BitVec.toNat h
  have h4 : (4 : Word).toNat = 4 := rfl
  refine BitVec.eq_of_toNat_eq ?_
  simp only [slice, BitVec.extractLsb'_toNat, BitVec.toNat_add, Nat.shiftRight_zero, h4] at hn ⊢
  omega

/-- The entry of an exception from a state whose memory, reserved bits and fixed bits are as they should be. -/
theorem State.enter_invariant {s : State} (hmem : s.mem.wf = true) (hres : slice s.cpsr 20 4 = 0)
    (hcp : s.cp15.Fixed s.params.cfgnmfi) (kind : ExcKind) (lr : Word) : (s.enter kind lr).Invariant where
  mem := by simpa using hmem
  pc := s.vector_aligned kind
  mode := by rw [State.enter_cpsr, psrM_entryCpsr, badMode_bits]
  armState := execStateFault_entryCpsr kind _ _
  reserved := (slice_congr (entryCpsr_kept kind s.cpsr s.cp15.sctlr) 20 4 (by decide)).trans hres
  cp15 := by simpa using hcp
  pending := rfl

theorem raise_invariant {e : Exc} {s t : State} (hmem : s.mem.wf = true) (hres : slice s.cpsr 20 4 = 0)
    (hcp : s.cp15.Fixed s.params.cfgnmfi) (h : raise e s = .next t) : t.Invariant := by
  obtain ⟨kind, lr, u, rfl, rfl | ⟨⟨va, st, wr, rfl⟩, -⟩⟩ := raise_enters h
  · exact State.enter_invariant hmem hres hcp kind lr
  · exact State.enter_invariant (s := s.setMemoryAbort va st wr) hmem hres hcp kind lr

theorem State.Invariant.advance {s : State} (h : s.Invariant) : s.advance.Invariant :=
  ⟨h.mem, aligned_add_four h.pc, h.mode, h.armState, h.reserved, h.cp15, rfl⟩

/-- R43: a completed body and the boundary after it. -/
theorem State.Invariant.commit {i : Instr} {s u : State} (h : s.Invariant)
    (hu : i.Completes { s with pendingBranch := none } u) (hparams : u.params = s.params) : u.commit.Invariant where
  mem := hu.mem h.mem
  pc := by
    have hpc : u.pc = s.pc := hu.pc
    obtain hb | ⟨a, hb, ha⟩ := hu.pending
    · rw [State.commit_pc, hb, hpc]
      exact aligned_add_four h.pc
    · rw [State.commit_pc, hb]
      exact ha
  mode := hu.cpsr.legalMode h.mode
  armState := hu.cpsr.armState h.armState
  reserved := hu.cpsr.reserved.trans h.reserved
  cp15 := by
    rw [State.commit_cp15, State.commit_params, hparams]
    obtain hc | ⟨o, n, v, -, hc⟩ := hu.cp15
    · exact hc ▸ h.cp15
    · exact hc ▸ h.cp15.written n v
  pending := rfl

theorem exec_invariant {i : Instr} {s t : State} (hs : s.Invariant) (h : exec i s = .next t) : t.Invariant := by
  have hparams : t.params = s.params := (exec_keepsInputs h).params
  cases exec_endsIn h with
  | skipped ht => exact ht ▸ hs.advance
  | completed hu ht =>
    subst ht
    exact hs.commit hu hparams
  | abandoned _ hu ht =>
    have hp : _ = s.params := (raise_keepsInputs ht).params.symm.trans hparams
    exact raise_invariant (hu.mem hs.mem) (hu.cpsr ▸ hs.reserved) (hu.cp15 ▸ hp ▸ hs.cp15) ht

theorem State.Invariant.ticked {s : State} (h : s.Invariant) : s.ticked.Invariant := by
  unfold State.ticked
  split
  · exact h
  · exact ⟨h.mem, h.pc, h.mode, h.armState, h.reserved, h.cp15, h.pending⟩

/-- R14, R533: a fetch leaves the state as it was, so its abort is an entry and its word an instruction. -/
theorem runFetched_invariant {s t : State} (hs : s.Invariant) (h : runFetched s = .next t) : t.Invariant := by
  have hfetch : (fetchWord s).Leads (· = s) := memRead_leads _ _ _ s
  unfold runFetched at h
  split at h
  · rename_i w u hw
    rw [hw] at hfetch
    obtain rfl : u = s := hfetch
    exact exec_invariant hs h
  · rename_i e u hw
    rw [hw] at hfetch
    obtain rfl : u = s := hfetch
    exact raise_invariant hs.mem hs.reserved hs.cp15 h
  · cases h

theorem takeInterrupt_invariant {kind : ExcKind} {s t : State} (hs : s.Invariant) (h : takeInterrupt kind s = .next t) :
    t.Invariant := by
  unfold takeInterrupt at h
  split at h
  · cases h
  · obtain ⟨-, rfl⟩ := takeException_next h
    exact State.enter_invariant hs.mem hs.reserved hs.cp15 _ _

/-- R541: an accepted interrupt is an entry from the state with its latch cleared. -/
theorem acceptInterrupt_invariant {s t : State} (hs : s.Invariant) (h : acceptInterrupt s = some (.next t)) :
    t.Invariant := by
  unfold acceptInterrupt at h
  split at h
  · refine takeInterrupt_invariant (s := { s with fiqPending := false }) ?_ (Option.some.inj h)
    exact ⟨hs.mem, hs.pc, hs.mode, hs.armState, hs.reserved, hs.cp15, hs.pending⟩
  · split at h
    · refine takeInterrupt_invariant (s := { s with irqPending := false }) ?_ (Option.some.inj h)
      exact ⟨hs.mem, hs.pc, hs.mode, hs.armState, hs.reserved, hs.cp15, hs.pending⟩
    · cases h

theorem boundary_invariant {s t : State} (hs : s.Invariant) (h : boundary s = .next t) : t.Invariant := by
  unfold boundary at h
  split at h
  · rename_i out ho
    exact acceptInterrupt_invariant hs (h ▸ ho)
  · obtain ⟨u, hu, rfl⟩ := Out.ticked_eq_next h
    exact (runFetched_invariant hs hu).ticked

/-- The state that the start of a step leaves, waiting or running. -/
def Wake.state : Wake → State
  | .running s => s
  | .waits s => s

/-- R467: the end of a wait changes the wait and the count of draws alone. -/
theorem wake_invariant {s : State} (hs : s.Invariant) : (wake s).state.Invariant := by
  unfold wake
  split
  · exact hs
  · split
    · exact ⟨hs.mem, hs.pc, hs.mode, hs.armState, hs.reserved, hs.cp15, hs.pending⟩
    · split <;> exact ⟨hs.mem, hs.pc, hs.mode, hs.armState, hs.reserved, hs.cp15, hs.pending⟩

theorem step_invariant {s t : State} (hs : s.Invariant) (h : step s = .next t) : t.Invariant := by
  have hw := wake_invariant hs
  unfold step cycle at h
  split at h
  · cases h
  · split at h
    · rename_i u hu
      rw [hu] at hw
      cases h
      exact hw
    · rename_i u hu
      rw [hu] at hw
      exact boundary_invariant hw h

/-- Settles O7: a step ends in an instruction's completed body, an advance or an exception entry, and each keeps the
invariant. -/
theorem stepKeepsTheInvariant : Obligations.StepKeepsTheInvariant := by
  intro s t hs h
  exact t.inv_iff.mpr (step_invariant (s.inv_iff.mp hs) h)

/-! ### What only the named instructions change -/

/-- Settles O11: the inputs are kept by every instruction, the wait and the monitor by every end of one. -/
theorem instructionsKeepTheLatches : Obligations.InstructionsKeepTheLatches := by
  intro i s t h
  obtain ⟨hparams, hirq, hfiq, hhalted⟩ := exec_keepsInputs h
  refine ⟨hirq, hfiq, hhalted, hparams, ?_⟩
  cases exec_endsIn h with
  | skipped ht =>
    subst ht
    exact ⟨rfl, fun _ => rfl, fun _ => rfl⟩
  | completed hu ht =>
    subst ht
    exact ⟨rfl, hu.waiting, hu.monitor⟩
  | abandoned _ hu ht =>
    obtain ⟨kind, lr, v, rfl, rfl | ⟨⟨va, st, wr, rfl⟩, -⟩⟩ := raise_enters ht
    · simpa using ⟨fun _ => hu.waiting, hu.monitor⟩
    · simpa using ⟨fun _ => hu.waiting, hu.monitor⟩

/-- R521: a raised exception keeps the flags. -/
theorem raise_keepsFlags {e : Exc} {s t : State} (h : raise e s = .next t) : t.cpsr &&& 0xF80F0000 = s.cpsr &&& 0xF80F0000 := by
  obtain ⟨kind, lr, u, rfl, rfl | ⟨⟨va, st, wr, rfl⟩, -⟩⟩ := raise_enters h
  · exact and_congr_of_subset (entryCpsr_kept kind _ _) (by decide)
  · exact and_congr_of_subset (entryCpsr_kept kind _ _) (by decide)

/-- Settles O12: a completed body writes its own flags, and exception entry none. -/
theorem onlyNamedFlagsChange : Obligations.OnlyNamedFlagsChange := by
  intro i s t h
  cases exec_endsIn h with
  | skipped ht =>
    subst ht
    rfl
  | completed hu ht =>
    subst ht
    exact hu.cpsr.keptFlags
  | abandoned _ hu ht =>
    refine and_congr_of_subset ((raise_keepsFlags ht).trans (by rw [hu.cpsr])) ?_
    rw [← BitVec.and_assoc, BitVec.and_self]

/-- Settles O13: a completed body writes CP15 or an SPSR only as its instruction does; an abandoned one has written neither,
and its exception saves CPSR and, for a data abort, records the fault. -/
theorem onlyNamedInstructionsChangeSystemRegisters : Obligations.OnlyNamedInstructionsChangeSystemRegisters := by
  intro i s t h
  cases exec_endsIn h with
  | skipped ht =>
    subst ht
    exact ⟨fun _ => .inl rfl, .inl rfl⟩
  | completed hu ht =>
    subst ht
    refine ⟨fun hi => ?_, hu.spsr.imp_right .inr⟩
    obtain hc | ⟨o, n, v, rfl, -⟩ := hu.cp15
    · exact .inl hc
    · exact absurd rfl (hi o)
  | abandoned he hu ht =>
    obtain ⟨kind, lr, v, rfl, rfl | ⟨⟨va, st, wr, rfl⟩, hkind⟩⟩ := raise_enters ht
    · exact ⟨fun _ => .inl (by simp [hu.cp15]), .inr (.inl ⟨kind, by simp [hu.spsr, hu.cpsr],
        by simp [State.vectorBase, hu.cp15]⟩)⟩
    · obtain rfl := hkind he
      refine ⟨fun _ => .inr ⟨va, st, wr, ?_, ?_, ?_⟩, .inr (.inl ⟨.dataAbort, ?_, ?_⟩)⟩
      · simp [hu.cp15]
      · simp [hu.cpsr, ExcKind.mode, Spsrs.set, Spsrs.get]
      · simp [State.vectorBase, hu.cp15, ExcKind.offset]
      · simp [hu.spsr, hu.cpsr]
      · simp [State.vectorBase, hu.cp15]

end Sys2Proof.Machine
end

section
/-! SUPPORT. O16, O17, O18 and O22 (spec/10_state.md): the register copies of the modes, the condition table, MSR, and the fault
recorder. Before them, what an instruction that runs answers (`Instr.exec_of_runs`). -/

namespace Sys2Proof

open Machine

/-! ### An instruction that runs -/

/-- R43: the state in which a body starts: no PC write is pending. -/
abbrev Machine.State.starting (s : State) : State := { s with pendingBranch := none }

/-- R13: neither UNPREDICTABLE nor with a failed condition, an instruction ends as its body does. -/
theorem Instr.exec_of_runs {i : Instr} {cond : Cond} {cases : List (Bool × Unpred)} {body : State → Res Unit} {s : State}
    (hr : i.runs s) (hcond : i.condition = some cond) (hunpred : i.unpredictable = cases.any Prod.fst)
    (hexec : exec i s = runInstr cond cases s body) : exec i s = finish (body s.starting) := by
  obtain ⟨hu, hp⟩ := hr
  rw [hexec, runInstr_passed (firstCase_eq_none.mpr (hunpred.symm.trans hu)) (passes_of_condition_some hcond ▸ hp)]

/-- R176: the same for an instruction without a condition. -/
theorem Instr.exec_of_runs_always {i : Instr} {cases : List (Bool × Unpred)} {body : State → Res Unit} {s : State}
    (hr : i.runs s) (hunpred : i.unpredictable = cases.any Prod.fst) (hexec : exec i s = runAlways cases s body) :
    exec i s = finish (body s.starting) := by
  obtain ⟨hu, -⟩ := hr
  exact hexec.trans (runInstr_passed (firstCase_eq_none.mpr (hunpred.symm.trans hu)) rfl)

namespace Machine

/-- R43: a completed body that left no PC write pending ends in an advance. -/
theorem State.commit_of_not_pending {s : State} (h : s.pendingBranch = none) : s.commit = s.advance := by
  simp [State.commit, State.advance, h]

/-! ### Registers -/

theorem toNat_lt_of_ne_pc {i : Reg} (hi : i ≠ pcReg) : i.toNat < 15 := by
  have hne : i.toNat ≠ 15 := fun h => hi (BitVec.eq_of_toNat_eq h)
  omega

/-- R31, R32: the number of the cell of register `i` in mode `m`, from the column of the table. -/
theorem cellOf_val {m : Mode} {i : Reg} (hi : i ≠ pcReg) : (cellOf m i).val =
    if i.toNat < 8 then i.toNat
    else if i.toNat < 13 then (if m.stackBank = 1 then i.toNat + 7 else i.toNat)
    else if m.stackBank = 0 then i.toNat else i.toNat + 5 + 2 * m.stackBank := by
  have hlt := toNat_lt_of_ne_pc hi
  cases m <;> simp only [cellOf, Mode.stackBank, Fin.ofNat] <;> grind

theorem Mode.stackBank_le (m : Mode) : m.stackBank ≤ 6 := by
  cases m <;> decide

theorem Mode.eq_fiq_iff (m : Mode) : m = .fiq ↔ m.stackBank = 1 := by
  cases m <;> simp [Mode.stackBank]

/-- R32: two modes see the same cell exactly as the same register in columns that share it. -/
theorem cellOf_eq_iff {m m' : Mode} {i j : Reg} (hi : i ≠ pcReg) (hj : j ≠ pcReg) :
    cellOf m i = cellOf m' j ↔ i = j ∧ sameCopy i m m' = true := by
  have hm := m.stackBank_le
  have hm' := m'.stackBank_le
  have hlt := toNat_lt_of_ne_pc hi
  have hlt' := toNat_lt_of_ne_pc hj
  rw [← Fin.val_inj, cellOf_val hi, cellOf_val hj, ← BitVec.toNat_inj]
  simp only [sameCopy, Mode.eq_fiq_iff, Bool.or_eq_true, Bool.and_eq_true, decide_eq_true_eq, beq_iff_eq, decide_eq_decide]
  split_ifs <;> omega

/-- R35: a mode's encoding is read back as the mode. -/
theorem State.mode_of_bits {s : State} {m : Mode} (h : psrM s.cpsr = m.bits) : s.mode = m := by
  rw [State.mode, h]
  cases m <;> rfl

/-- Settles O16: a register write is seen through the same cell, and the table says which copies share one. -/
theorem modesSeeTheirOwnRegisters : Obligations.ModesSeeTheirOwnRegisters := by
  refine ⟨fun s m m' i j v hi hj => ?_, fun s m i v hi hm => ?_, fun s => if_pos rfl⟩
  · rw [State.rmode_setRmode s m m' i j v hi]
    simp only [cellOf_eq_iff hi hj]
  · rw [State.reg, if_neg hi, State.setReg, State.mode_of_bits hm]
    exact ⟨rfl, rfl⟩

/-! ### Conditions -/

/-- Settles O17: the sixteen rows, an odd condition below 1111 the negation of the row before it. -/
theorem conditionTable : Obligations.ConditionTable := by
  intro w n z c v
  refine ⟨rfl, rfl, rfl, rfl, rfl, rfl, rfl, rfl, rfl, ?_, rfl, rfl, ?_, ?_, rfl, rfl⟩
  · show (!(c && !z)) = (!c || z)
    rw [Bool.not_and, Bool.not_not]
  · show (n == v && !z) = (!z && n == v)
    exact Bool.and_comm _ _
  · show (!(n == v && !z)) = (z || n != v)
    rw [Bool.not_and, Bool.not_not, Bool.or_comm, bne]

/-! ### MSR -/

theorem getLsbD_maskIf (b : Bool) (m : Word) (j : Nat) : (maskIf b m).getLsbD j = (b && m.getLsbD j) := by
  cases b <;> simp [maskIf]

/-- R39: the bits that a write of CPSR without execution state replaces. -/
theorem getLsbD_cpsrWriteMask (mask : BitVec 4) (priv blockF : Bool) : ∀ j < 32,
    (cpsrWriteMask mask false priv blockF).getLsbD j =
      ((mask.getLsbD 3 && decide (27 ≤ j)) || (mask.getLsbD 2 && decide (16 ≤ j ∧ j ≤ 19))
        || (mask.getLsbD 1 && (decide (j = 9) || (decide (j = 8) && priv)))
        || (mask.getLsbD 0 && priv && (decide (j = 7) || (decide (j = 6) && !blockF) || decide (j ≤ 4)))) := by
  intro j hj
  have h27 : ∀ j < 32, (0xF8000000 : Word).getLsbD j = decide (27 ≤ j) := by decide
  have h16 : ∀ j < 32, (0x000F0000 : Word).getLsbD j = decide (16 ≤ j ∧ j ≤ 19) := by decide
  have h9 : ∀ j < 32, (0x00000200 : Word).getLsbD j = decide (j = 9) := by decide
  have h8 : ∀ j < 32, (0x00000100 : Word).getLsbD j = decide (j = 8) := by decide
  have h7 : ∀ j < 32, (0x0000009F : Word).getLsbD j = (decide (j = 7) || decide (j ≤ 4)) := by decide
  have h6 : ∀ j < 32, (0x00000040 : Word).getLsbD j = decide (j = 6) := by decide
  simp only [cpsrWriteMask, BitVec.getLsbD_or, getLsbD_maskIf, h27 j hj, h16 j hj, h9 j hj, h8 j hj, h7 j hj, h6 j hj,
    Bool.false_and, Bool.or_false, Bool.false_or]
  grind

/-- R46: the bits that a write of an SPSR replaces. -/
theorem getLsbD_spsrWriteMask (mask : BitVec 4) : ∀ j < 32, (spsrWriteMask mask).getLsbD j = spsrBitWritten mask j := by
  intro j hj
  have h24 : ∀ j < 32, (0xFF000000 : Word).getLsbD j = decide (24 ≤ j) := by decide
  have h16 : ∀ j < 32, (0x000F0000 : Word).getLsbD j = decide (16 ≤ j ∧ j ≤ 19) := by decide
  have h8 : ∀ j < 32, (0x0000FF00 : Word).getLsbD j = decide (8 ≤ j ∧ j ≤ 15) := by decide
  have h0 : ∀ j < 32, (0x000000FF : Word).getLsbD j = decide (j ≤ 7) := by decide
  simp only [spsrWriteMask, spsrBitWritten, BitVec.getLsbD_or, getLsbD_maskIf, h24 j hj, h16 j hj, h8 j hj, h0 j hj]

/-- R39: the two ways to say that NMFI blocks a write of F. -/
theorem nmfiBlocks_eq (s : State) (value : Word) :
    nmfiBlocks s.params.nmfiPolicy (bit s.cp15.sctlr 27) (psrF value) = s.blocksF (value.getLsbD 6) := by
  unfold nmfiBlocks State.blocksF
  cases s.params.nmfiPolicy <;> rfl

/-- R39: each bit of CPSR after a write without execution state. -/
theorem State.getLsbD_cpsrWritten (s : State) (value : Word) (mask : BitVec 4) (j : Nat) (hj : j < 32) :
    (s.cpsrWritten value mask false).getLsbD j =
      if s.cpsrBitWritten mask (value.getLsbD 6) j then value.getLsbD j else s.cpsr.getLsbD j := by
  rw [State.cpsrWritten, getLsbD_merge _ _ _ _ hj, getLsbD_cpsrWriteMask _ _ _ j hj, nmfiBlocks_eq]
  rfl

/-- R37, R39: a write without execution state stays in ARM state. -/
theorem State.execStateFault_cpsrWritten {s : State} (harm : s.armState = true) (value : Word) (mask : BitVec 4) :
    execStateFault (s.cpsrWritten value mask false) = none := by
  have hmask (priv blockF : Bool) : cpsrWriteMask mask false priv blockF &&& 0x0700FC20 = 0 := by
    revert mask priv blockF
    decide
  rw [State.cpsrWritten, execStateFault_congr (merge_and_of_disjoint (hmask _ _) _ _)]
  exact Option.isNone_iff_eq_none.mp harm

/-- R39, R33: what a write of CPSR without execution state answers. -/
theorem cpsrWriteByInstr_badMode {s : State} {value : Word} {mask : BitVec 4} {ex : Bool} (h0 : mask.getLsbD 0 = true)
    (hp : s.privileged = true) (hb : badMode (psrM value) = true) :
    cpsrWriteByInstr value mask ex s = .halt (.unpredictable .badMode) := by
  simp only [cpsrWriteByInstr, h0, hp, hb, Bool.and_true, if_true]

theorem cpsrWriteByInstr_done {s : State} {value : Word} {mask : BitVec 4} {ex : Bool}
    (hmode : mask.getLsbD 0 = true → s.privileged = true → badMode (psrM value) = false)
    (harm : execStateFault (s.cpsrWritten value mask ex) = none) :
    cpsrWriteByInstr value mask ex s = .done { s with cpsr := s.cpsrWritten value mask ex } := by
  have hlegal : ¬ (mask.getLsbD 0 && s.privileged && badMode (psrM value)) = true := by
    simp only [Bool.and_eq_true, not_and, Bool.not_eq_true, and_imp]
    exact hmode
  rw [cpsrWriteByInstr, if_neg hlegal, harm]

/-- R46: what a write of the SPSR of the mode answers. -/
theorem spsrWriteByInstr_noSPSR {s : State} {value : Word} {mask : BitVec 4} (h : s.spsr.get s.mode = none) :
    spsrWriteByInstr value mask s = .halt (.unpredictable .noSPSR) := by
  rw [spsrWriteByInstr, h]

theorem spsrWriteByInstr_badMode {s : State} {value old : Word} {mask : BitVec 4} (h : s.spsr.get s.mode = some old)
    (h0 : mask.getLsbD 0 = true) (hb : badMode (psrM value) = true) :
    spsrWriteByInstr value mask s = .halt (.unpredictable .badMode) := by
  simp only [spsrWriteByInstr, h, h0, hb, Bool.and_true, if_true]

theorem spsrWriteByInstr_done {s : State} {value old : Word} {mask : BitVec 4} (h : s.spsr.get s.mode = some old)
    (hmode : mask.getLsbD 0 = true → badMode (psrM value) = false) :
    spsrWriteByInstr value mask s = .done { s with spsr := s.spsr.set s.mode (merge (spsrWriteMask mask) old value) } := by
  have hlegal : ¬ (mask.getLsbD 0 && badMode (psrM value)) = true := by
    simpa only [Bool.and_eq_true, not_and, Bool.not_eq_true] using hmode
  simp only [spsrWriteByInstr, h, if_neg hlegal]

/-- R451, R452: an MSR that runs ends as the write of its value. -/
theorem IsMsr.exec {i : Instr} {r : Bool} {mask : BitVec 4} {value : State → Word} {s : State} (hi : IsMsr i r mask value)
    (hr : i.runs s) : exec i s = finish (msrBody r mask (value s) s.starting) := by
  obtain ⟨o, rfl, rfl, rfl, rfl⟩ | ⟨o, rfl, rfl, rfl, rfl⟩ := hi
  · refine Instr.exec_of_runs (body := fun s => msrBody o.r o.mask (s.reg o.rn) s) hr rfl ?_
      (by dsimp only [Machine.exec]; rfl)
    simp [Instr.unpredictable, Bool.or_assoc]
  · refine Instr.exec_of_runs (body := fun s => msrBody o.r o.mask (operandImm o.imm12 s).1 s) hr rfl ?_
      (by dsimp only [Machine.exec]; rfl)
    simp [Instr.unpredictable]

/-- Settles O18: an MSR ends as its masked write, whose bits the masks give. -/
theorem msrWritesUnderItsMask : Obligations.MsrWritesUnderItsMask := by
  refine ⟨fun i mask value s hi hr harm => ⟨fun h0 hp hb => ?_, fun hmode => ?_⟩,
    fun i mask value s hi hr => ⟨fun hnone => ?_, fun old hold => ⟨fun h0 hb => ?_, fun hmode => ?_⟩⟩⟩ <;>
    rw [hi.exec hr]
  · exact congrArg finish (cpsrWriteByInstr_badMode (s := s.starting) h0 hp hb)
  · exact ⟨_, congrArg finish (cpsrWriteByInstr_done (s := s.starting) hmode (State.execStateFault_cpsrWritten harm _ mask)),
      s.getLsbD_cpsrWritten (value s) mask⟩
  · exact congrArg finish (spsrWriteByInstr_noSPSR (s := s.starting) hnone)
  · exact congrArg finish (spsrWriteByInstr_badMode (s := s.starting) hold h0 hb)
  · refine ⟨_, congrArg finish (spsrWriteByInstr_done (s := s.starting) hold hmode), fun j hj => ?_⟩
    rw [getLsbD_merge _ _ _ _ hj, getLsbD_spsrWriteMask mask j hj]

/-! ### The fault recorder -/

/-- R78, R118: the word that the fault recorder writes. -/
theorem faultWord_eq (status : FaultStatus) (write : Bool) :
    faultWord status write = (if write then 0x800 else 0) ||| faultCode status := by
  cases status <;> cases write <;> decide

/-- Settles O22: the recorder writes the fault word, and an abort is the entry after it. -/
theorem abortsAreRecorded : Obligations.AbortsAreRecorded := by
  intro s va status write fsr
  refine ⟨?_, rfl, rfl⟩
  rw [State.setMemoryAbort, faultWord_eq]

end Machine
end Sys2Proof
end

section
/-! SUPPORT. O56 and O57 (spec/10_state.md): the CP15 map, the transfers to and from it, and what its registers read back. -/

namespace Sys2Proof.Machine

-- Many small facts proved side by side would each ask for a thread with the full stack.
set_option Elab.async false

/-! ### The map -/

/-- R60: in rows with distinct keys the lookup finds the row of a key, and no other. -/
theorem find?_key_eq_some_iff {k : Cp15Key} {r : Cp15Row} : ∀ {rows : List Cp15Row}, (rows.map Cp15Row.key).Nodup →
    (rows.find? (fun r => r.key == k) = some r ↔ r ∈ rows ∧ r.key = k)
  | [], _ => by simp
  | x :: rows, hnd => by
    obtain ⟨hx, hrest⟩ := List.nodup_cons.mp hnd
    have hfresh : r ∈ rows → r.key ≠ x.key := fun hr he => hx (he ▸ List.mem_map_of_mem hr)
    by_cases hk : x.key = k
    · subst hk
      rw [List.find?_cons_of_pos (by simp), Option.some.injEq, List.mem_cons]
      constructor
      · rintro rfl
        exact ⟨.inl rfl, rfl⟩
      · rintro ⟨rfl | hr, he⟩
        · rfl
        · exact absurd he (hfresh hr)
    · rw [List.find?_cons_of_neg (by simpa using hk), find?_key_eq_some_iff hrest, List.mem_cons]
      constructor
      · exact fun ⟨hr, he⟩ => ⟨.inr hr, he⟩
      · rintro ⟨rfl | hr, he⟩
        · exact absurd he hk
        · exact ⟨hr, he⟩

/-- R61: no key stands in the map twice. -/
theorem cp15Map_keys_nodup : (cp15Map.map Cp15Row.key).Nodup := by decide +kernel

theorem cp15Lookup_eq_some_iff {k : Cp15Key} {r : Cp15Row} : cp15Lookup k = some r ↔ r ∈ cp15Map ∧ r.key = k :=
  find?_key_eq_some_iff cp15Map_keys_nodup

/-- R61: a key with what it names. -/
abbrev Cp15Entry := Cp15Key × Cp15Name × AccessClass

/-- The entry of a row of the map. -/
def Cp15Row.entry (r : Cp15Row) : Cp15Entry := (r.key, r.name, r.access)

/-- The entries of a line of the table. -/
def Cp15Line.entries (l : Cp15Line) : List Cp15Entry :=
  l.names.map fun p => ({ crn := l.crn, opc1 := l.opc1, crm := l.crm, opc2 := p.1 }, p.2, l.access)

/-- R61: the map has the entries of the table, in another order. -/
theorem cp15Map_perm : (cp15Map.map Cp15Row.entry).Perm ((cp15OneWay ++ cp15TwoWay).flatMap Cp15Line.entries) := by
  decide +kernel

theorem Cp15Key.names_iff {k : Cp15Key} {name : Cp15Name} {access : AccessClass} :
    k.names name access ↔ (k, name, access) ∈ (cp15OneWay ++ cp15TwoWay).flatMap Cp15Line.entries := by
  obtain ⟨crn, opc1, crm, opc2⟩ := k
  simp only [Cp15Key.names, List.mem_flatMap, Cp15Line.entries, List.mem_map, Prod.mk.injEq, Cp15Key.mk.injEq]
  constructor
  · rintro ⟨l, hl, rfl, rfl, rfl, rfl, hm⟩
    exact ⟨l, hl, _, hm, ⟨rfl, rfl, rfl, rfl⟩, rfl, rfl⟩
  · rintro ⟨l, hl, ⟨_, _⟩, hm, ⟨rfl, rfl, rfl, rfl⟩, rfl, rfl⟩
    exact ⟨l, hl, rfl, rfl, rfl, rfl, hm⟩

/-- R61: the lookup gives a key exactly what the table gives it. -/
theorem cp15Lookup_iff_names (k : Cp15Key) (name : Cp15Name) (access : AccessClass) :
    (∃ row, cp15Lookup k = some row ∧ row.name = name ∧ row.access = access) ↔ k.names name access := by
  rw [Cp15Key.names_iff, ← cp15Map_perm.mem_iff, List.mem_map]
  simp only [cp15Lookup_eq_some_iff, Cp15Row.entry, Prod.mk.injEq, and_assoc]

/-! ### The transfers -/

theorem AccessClass.admits_write (a : AccessClass) : a.admits .write = true ↔ a ≠ .ro1 := by
  cases a <;> simp [AccessClass.admits]

theorem AccessClass.admits_read (a : AccessClass) : a.admits .read = true ↔ a ≠ .wo1 ∧ a ≠ .wo0 := by
  cases a <;> simp [AccessClass.admits]

theorem AccessClass.admitsUser_write (a : AccessClass) : a.admitsUser .write = true ↔ a = .rw0 ∨ a = .wo0 := by
  cases a <;> simp [AccessClass.admitsUser]

theorem AccessClass.admitsUser_read (a : AccessClass) : a.admitsUser .read = true ↔ a = .rw0 ∨ a = .ro0w1 := by
  cases a <;> simp [AccessClass.admitsUser]

/-- R76: the write is one of a barrier operation with CP15BEN = 0. -/
theorem State.barrierDisabled_iff (s : State) (n : Cp15Name) :
    s.barrierDisabled n = true ↔ (∃ b, n = .barrier b) ∧ s.cp15.sctlr.getLsbD 5 = false := by
  cases n <;> simp [State.barrierDisabled, bit]

section Bodies

variable {k : Cp15Key} {row : Cp15Row} {s : State}

theorem cp15WriteBody_unknown (h : cp15Lookup k = none) (v : Word) :
    cp15WriteBody k v s = .halt (.cp15Unsupported k .write) := by
  simp only [cp15WriteBody, h]

theorem cp15WriteBody_refused (h : cp15Lookup k = some row) (ha : row.access.admits .write = false) (v : Word) :
    cp15WriteBody k v s = .halt (.cp15Unsupported k .write) := by
  simp [cp15WriteBody, h, ha]

theorem cp15WriteBody_undefined (h : cp15Lookup k = some row) (ha : row.access.admits .write = true)
    (hu : (s.privileged = false ∧ row.access.admitsUser .write = false) ∨ s.barrierDisabled row.name = true) (v : Word) :
    cp15WriteBody k v s = .exc .undefined s := by
  have htrap : ((!s.privileged && !row.access.admitsUser .write) || s.barrierDisabled row.name) = true := by
    simpa using hu
  simp [cp15WriteBody, h, ha, htrap]

theorem cp15WriteBody_done (h : cp15Lookup k = some row) (ha : row.access.admits .write = true)
    (hu : s.privileged = true ∨ row.access.admitsUser .write = true) (hb : s.barrierDisabled row.name = false) (v : Word) :
    cp15WriteBody k v s = .done { s with cp15 := s.cp15.written s.params.cfgnmfi row.name v } := by
  have hpass : (!s.privileged && !row.access.admitsUser .write) = false := by
    obtain hu | hu := hu <;> simp [hu]
  simp [cp15WriteBody, h, ha, hpass, hb]

theorem cp15ReadBody_unknown (h : cp15Lookup k = none) : cp15ReadBody k s = .halt (.cp15Unsupported k .read) := by
  simp only [cp15ReadBody, h]

theorem cp15ReadBody_refused (h : cp15Lookup k = some row) (ha : row.access.admits .read = false) :
    cp15ReadBody k s = .halt (.cp15Unsupported k .read) := by
  simp [cp15ReadBody, h, ha]

theorem cp15ReadBody_undefined (h : cp15Lookup k = some row) (ha : row.access.admits .read = true)
    (hp : s.privileged = false) (hu : row.access.admitsUser .read = false) : cp15ReadBody k s = .exc .undefined s := by
  simp [cp15ReadBody, h, ha, hp, hu]

theorem cp15ReadBody_ok (h : cp15Lookup k = some row) (ha : row.access.admits .read = true)
    (hu : s.privileged = true ∨ row.access.admitsUser .read = true) :
    cp15ReadBody k s = .ok (s.cp15Read row.name) s := by
  have hpass : (!s.privileged && !row.access.admitsUser .read) = false := by
    obtain hu | hu := hu <;> simp [hu]
  simp [cp15ReadBody, h, ha, hpass]

end Bodies

/-- R43, R521: a PC write pending before an exception does not matter to its entry. -/
theorem takeException_starting (kind : ExcKind) (lr : Word) (s : State) :
    takeException kind lr s.starting = takeException kind lr s := rfl

/-- A field of a word, put back in its place, is that word under the mask of the field. -/
theorem place_slice (w : Word) (lo n : Nat) : place (slice w lo n) lo = w &&& maskOf lo n := by
  ext j hj
  by_cases hlo : j < lo
  · simp [place, slice, maskOf, hlo]
  · have hback : lo + (j - lo) = j := by omega
    have hin : j - lo < 32 := by omega
    simp [place, slice, maskOf, hlo, hback, hin, hj, ← BitVec.getLsbD_eq_getElem, Bool.and_comm]

/-- A masked write depends on the new value under its mask alone. -/
theorem merge_congr {m b b' : Word} (a : Word) (h : b &&& m = b' &&& m) : merge m a b = merge m a b' := by
  rw [merge, merge, h]

/-- R36: the two ways to replace the four flags. -/
theorem setNZCV_eq_withNZCV (w : Word) (n z c v : Bool) : setNZCV w n z c v = withNZCV w n z c v := by
  have hflags : (placeBit n 31 ||| placeBit z 30 ||| placeBit c 29 ||| placeBit v 28) &&& 0xF0000000 =
      (if n then 0x80000000 else 0) ||| ((if z then 0x40000000 else 0) ||| ((if c then 0x20000000 else 0)
        ||| (if v then 0x10000000 else 0))) := by
    revert n z c v
    decide
  rw [setNZCV, merge, hflags, withNZCV, BitVec.or_assoc, BitVec.or_assoc, BitVec.or_assoc]
  rfl

/-- R491: the four flags of an MRC with t = 15 are the top bits of the value. -/
theorem putSlice_flags (w v : Word) :
    putSlice w 28 (slice v 28 4) = withNZCV w (v.getLsbD 31) (v.getLsbD 30) (v.getLsbD 29) (v.getLsbD 28) := by
  rw [← setNZCV_eq_withNZCV]
  refine merge_congr w ?_
  have hbits : placeBit (bit v 31) 31 ||| placeBit (bit v 30) 30 ||| placeBit (bit v 29) 29 ||| placeBit (bit v 28) 28
      = v &&& maskOf 28 4 := by
    simp only [placeBit_bit, BitVec.and_comm v, ← or_and_mask]
    rfl
  rw [place_slice, ← hbits]
  rfl

theorem execMcrP15_eq {o : Cp15Op} {s : State} (hr : (Instr.mcrP15 o).runs s) :
    exec (.mcrP15 o) s = finish (cp15WriteBody (cp15Key o) (s.reg o.rt) s.starting) := by
  refine Instr.exec_of_runs (body := fun s => cp15WriteBody (cp15Key o) (s.reg o.rt) s) hr rfl ?_
    (by dsimp only [exec]; rfl)
  simp [Instr.unpredictable]

theorem execMrcP15_eq {o : Cp15Op} {s : State} (hr : (Instr.mrcP15 o).runs s) :
    exec (.mrcP15 o) s =
      finish ((cp15ReadBody (cp15Key o) s.starting).andThen fun v t => .done (mrcWrite o.rt v t)) :=
  Instr.exec_of_runs (body := fun s => (cp15ReadBody (cp15Key o) s).andThen fun v t => .done (mrcWrite o.rt v t)) hr rfl
    rfl (by dsimp only [exec]; rfl)

/-- R43: a register write by a body that leaves no PC write pending. -/
theorem State.commit_setReg_starting (s : State) (i : Reg) (v : Word) : (s.starting.setReg i v).commit = (s.setReg i v).advance := by
  unfold State.setReg State.setRmode
  split <;> rfl

/-- Settles O56: the map by its keys, and each transfer by the checks of its body in their order. -/
theorem cp15Transfers : Obligations.Cp15Transfers := by
  refine ⟨cp15Lookup_iff_names, ?_⟩
  intro o s key
  refine ⟨fun hr => ?_, fun hr => ?_⟩
  · rw [execMcrP15_eq hr]
    refine ⟨fun hnone => ?_, ?_⟩
    · exact congrArg finish (cp15WriteBody_unknown hnone _)
    intro row hrow barrierOff
    refine ⟨fun hro => ?_, fun hro hu hb => ?_, fun hro hu => ?_⟩
    · have ha : row.access.admits .write = false := by simp [hro, AccessClass.admits]
      exact congrArg finish (cp15WriteBody_refused hrow ha _)
    · have ha := row.access.admits_write.mpr hro
      have hb' : s.barrierDisabled row.name = false :=
        eq_false_of_ne_true (mt (s.barrierDisabled_iff row.name).mp hb)
      exact congrArg finish (cp15WriteBody_done (s := s.starting) hrow ha (hu.imp_right row.access.admitsUser_write.mpr) hb' _)
    · have ha := row.access.admits_write.mpr hro
      have hu' : (s.privileged = false ∧ row.access.admitsUser .write = false) ∨ s.barrierDisabled row.name = true := by
        refine hu.imp (fun ⟨hp, h0, h1⟩ => ⟨hp, eq_false_of_ne_true fun h => ?_⟩) (s.barrierDisabled_iff row.name).mpr
        exact (row.access.admitsUser_write.mp h).elim h0 h1
      exact (congrArg finish (cp15WriteBody_undefined (s := s.starting) hrow ha hu' _)).trans (takeException_starting _ _ s)
  · rw [execMrcP15_eq hr, show cp15Key o = key from rfl]
    refine ⟨fun hnone => ?_, fun row hrow => ⟨fun hwo => ?_, fun h1 h0 hu => ?_, fun h1 h0 hp hrw hro => ?_⟩⟩
    · rw [cp15ReadBody_unknown hnone]
      rfl
    · have ha : row.access.admits .read = false :=
        eq_false_of_ne_true fun h => (row.access.admits_read.mp h).elim fun h1 h0 => hwo.elim h1 h0
      rw [cp15ReadBody_refused hrow ha]
      rfl
    · have ha := row.access.admits_read.mpr ⟨h1, h0⟩
      rw [cp15ReadBody_ok (s := s.starting) hrow ha (hu.imp_right row.access.admitsUser_read.mpr)]
      refine ⟨fun hrt => ?_, fun hrt => ?_⟩
      · rw [← State.commit_setReg_starting]
        simp only [Res.andThen, mrcWrite, if_neg hrt]
        rfl
      · rw [← putSlice_flags]
        simp only [Res.andThen, mrcWrite, if_pos hrt]
        rfl
    · have ha := row.access.admits_read.mpr ⟨h1, h0⟩
      have hu : row.access.admitsUser .read = false :=
        eq_false_of_ne_true fun h => (row.access.admitsUser_read.mp h).elim hrw hro
      rw [cp15ReadBody_undefined (s := s.starting) hrow ha hp hu]
      exact takeException_starting _ _ s

/-! ### What the registers read back

One equation for each register: a write reaches the register it names, and no other. -/

section Written

variable (c : Cp15) (cfgnmfi : Bool) (n : Cp15Name) (v : Word)

theorem Cp15.written_csselr : (c.written cfgnmfi n v).csselr = if n = .csselr then slice v 0 4 else c.csselr := by
  cases n <;> rfl

theorem Cp15.written_sctlr :
    (c.written cfgnmfi n v).sctlr = if n = .sctlr then sctlrStored cfgnmfi v else c.sctlr := by
  cases n <;> rfl

theorem Cp15.written_ttbcr : (c.written cfgnmfi n v).ttbcr = if n = .ttbcr then v &&& ttbcrMask else c.ttbcr := by
  cases n <;> rfl

theorem Cp15.written_actlr : (c.written cfgnmfi n v).actlr = if n = .actlr then v else c.actlr := by
  cases n <;> rfl

theorem Cp15.written_ttbr0 : (c.written cfgnmfi n v).ttbr0 = if n = .ttbr0 then v else c.ttbr0 := by
  cases n <;> rfl

theorem Cp15.written_ttbr1 : (c.written cfgnmfi n v).ttbr1 = if n = .ttbr1 then v else c.ttbr1 := by
  cases n <;> rfl

theorem Cp15.written_dacr : (c.written cfgnmfi n v).dacr = if n = .dacr then v else c.dacr := by
  cases n <;> rfl

theorem Cp15.written_dfsr : (c.written cfgnmfi n v).dfsr = if n = .dfsr then v else c.dfsr := by
  cases n <;> rfl

theorem Cp15.written_ifsr : (c.written cfgnmfi n v).ifsr = if n = .ifsr then v else c.ifsr := by
  cases n <;> rfl

theorem Cp15.written_dfar : (c.written cfgnmfi n v).dfar = if n = .dfar then v else c.dfar := by
  cases n <;> rfl

theorem Cp15.written_ifar : (c.written cfgnmfi n v).ifar = if n = .ifar then v else c.ifar := by
  cases n <;> rfl

theorem Cp15.written_prrr : (c.written cfgnmfi n v).prrr = if n = .prrr then v else c.prrr := by
  cases n <;> rfl

theorem Cp15.written_nmrr : (c.written cfgnmfi n v).nmrr = if n = .nmrr then v else c.nmrr := by
  cases n <;> rfl

theorem Cp15.written_contextidr :
    (c.written cfgnmfi n v).contextidr = if n = .contextidr then v else c.contextidr := by
  cases n <;> rfl

theorem Cp15.written_tpidrurw : (c.written cfgnmfi n v).tpidrurw = if n = .tpidrurw then v else c.tpidrurw := by
  cases n <;> rfl

theorem Cp15.written_tpidruro : (c.written cfgnmfi n v).tpidruro = if n = .tpidruro then v else c.tpidruro := by
  cases n <;> rfl

theorem Cp15.written_tpidrprw : (c.written cfgnmfi n v).tpidrprw = if n = .tpidrprw then v else c.tpidrprw := by
  cases n <;> rfl

end Written

/-- R62, R63: the value that SCTLR stores, as R62 writes its fixed bits. -/
theorem sctlrStored_eq (cfgnmfi : Bool) (v : Word) :
    sctlrStored cfgnmfi v = (v &&& 0x73207C27) ||| 0x00C50058 ||| (if cfgnmfi then 0x08000000 else 0) := by
  cases cfgnmfi <;> rfl

/-- R72: CSSELR keeps and reads its four low bits. -/
theorem zext_slice_low (v : Word) : zext (slice v 0 4) = v &&& 0xF := by
  simpa [place, zext, maskOf] using place_slice v 0 4

/-- R61, R63, R66, R72: a register reads back what `readBack` says. -/
theorem State.cp15Read_written {s : State} {n : Cp15Name} {v x : Word} (h : readBack s.params.cfgnmfi n v = some x) :
    State.cp15Read { s with cp15 := s.cp15.written s.params.cfgnmfi n v } n = x := by
  cases n with
  | sctlr => exact (sctlrStored_eq _ v).trans (Option.some.inj h)
  | csselr => exact (zext_slice_low v).trans (Option.some.inj h)
  | ttbcr | cpacr | actlr | ttbr0 | ttbr1 | dacr | dfsr | ifsr | dfar | ifar | prrr | nmrr | contextidr | tpidrurw
  | tpidruro | tpidrprw => exact Option.some.inj h
  | _ => cases h

/-- R61, R76: a write of a register or operation that reads nothing back changes nothing. -/
theorem Cp15.written_of_readBack_none {c : Cp15} {cfgnmfi : Bool} {n : Cp15Name} {v : Word}
    (h : readBack cfgnmfi n v = none) : c.written cfgnmfi n v = c := by
  cases n with
  | sctlr | csselr | ttbcr | cpacr | actlr | ttbr0 | ttbr1 | dacr | dfsr | ifsr | dfar | ifar | prrr | nmrr | contextidr
  | tpidrurw | tpidruro | tpidrprw => cases h
  | _ => rfl

/-- R61, R73: a write changes what no other register reads, but CCSIDR, which CSSELR selects. -/
theorem State.cp15Read_written_of_ne {s : State} {n m : Cp15Name} (v : Word) (hne : m ≠ n)
    (hsel : n = .csselr → m ≠ .ccsidr) :
    State.cp15Read { s with cp15 := s.cp15.written s.params.cfgnmfi n v } m = s.cp15Read m := by
  cases m with
  | sctlr => exact (Cp15.written_sctlr _ _ _ _).trans (if_neg hne.symm)
  | csselr => exact congrArg zext ((Cp15.written_csselr _ _ _ _).trans (if_neg hne.symm))
  | ttbcr => exact (Cp15.written_ttbcr _ _ _ _).trans (if_neg hne.symm)
  | actlr => exact (Cp15.written_actlr _ _ _ _).trans (if_neg hne.symm)
  | ttbr0 => exact (Cp15.written_ttbr0 _ _ _ _).trans (if_neg hne.symm)
  | ttbr1 => exact (Cp15.written_ttbr1 _ _ _ _).trans (if_neg hne.symm)
  | dacr => exact (Cp15.written_dacr _ _ _ _).trans (if_neg hne.symm)
  | dfsr => exact (Cp15.written_dfsr _ _ _ _).trans (if_neg hne.symm)
  | ifsr => exact (Cp15.written_ifsr _ _ _ _).trans (if_neg hne.symm)
  | dfar => exact (Cp15.written_dfar _ _ _ _).trans (if_neg hne.symm)
  | ifar => exact (Cp15.written_ifar _ _ _ _).trans (if_neg hne.symm)
  | prrr => exact (Cp15.written_prrr _ _ _ _).trans (if_neg hne.symm)
  | nmrr => exact (Cp15.written_nmrr _ _ _ _).trans (if_neg hne.symm)
  | contextidr => exact (Cp15.written_contextidr _ _ _ _).trans (if_neg hne.symm)
  | tpidrurw => exact (Cp15.written_tpidrurw _ _ _ _).trans (if_neg hne.symm)
  | tpidruro => exact (Cp15.written_tpidruro _ _ _ _).trans (if_neg hne.symm)
  | tpidrprw => exact (Cp15.written_tpidrprw _ _ _ _).trans (if_neg hne.symm)
  | ccsidr =>
    have hkept : (s.cp15.written s.params.cfgnmfi n v).csselr = s.cp15.csselr :=
      (Cp15.written_csselr _ _ _ _).trans (if_neg fun h => hsel h rfl)
    exact congrArg (fun sel : BitVec 4 => s.params.ids.ccsidr.get sel.toFin) hkept
  | _ => rfl

/-- Settles O57: a write reaches its own register, in the form that the register stores. -/
theorem cp15WritesReadBack : Obligations.Cp15WritesReadBack := by
  intro s n m v t
  refine ⟨fun x hx => State.cp15Read_written hx, fun hnone => ?_, State.cp15Read_written_of_ne v⟩
  show { s with cp15 := s.cp15.written s.params.cfgnmfi n v } = s
  rw [Cp15.written_of_readBack_none hnone]

end Sys2Proof.Machine
end

section
/-! SUPPORT. O55 (spec/46_memory.md): the exclusives. Before it, what a body's memory accesses answer in the state in which it
starts, and what a write of several bytes stores. -/

namespace Sys2Proof.Machine

/-! ### Accesses of a body

A PC write that is pending before an instruction (none is, at a boundary) matters to no access. -/

/-- The result with no PC write pending in the state it leaves. -/
def Res.starting {α : Type} : Res α → Res α
  | .ok a s => .ok a s.starting
  | .exc e s => .exc e s.starting
  | .halt f => .halt f

theorem State.translate_starting (s : State) (va : Word) (acc : Access) :
    s.starting.translate va acc = s.translate va acc := rfl

theorem translateThen_starting {α : Type} {va : Word} {acc : Access} {s : State} {k k' : Word → Res α}
    (hk : ∀ pa, k' pa = (k pa).starting) : translateThen va acc s.starting k' = (translateThen va acc s k).starting := by
  simp only [translateThen, State.translate_starting]
  split
  · exact hk _
  · rfl
  · rfl

theorem readSplit_starting (acc : Access) (s : State) : ∀ (n : Nat) (va : Word),
    readSplit va acc s.starting n = (readSplit va acc s n).starting
  | 0, _ => rfl
  | n + 1, va => by
    refine translateThen_starting fun pa => ?_
    rw [readSplit_starting acc s n (va + 1)]
    cases readSplit (va + 1) acc s n <;> rfl

/-- R107: a read answers the same. -/
theorem memRead_starting (va : Word) (w : Width) (acc : Access) (s : State) :
    memRead va w acc s.starting = (memRead va w acc s).starting := by
  have whole : readWhole va w acc s.starting = (readWhole va w acc s).starting := translateThen_starting fun _ => rfl
  have hsplit := readSplit_starting acc s w.bytes va
  unfold memRead
  rw [whole, hsplit, show s.starting.checkUnaligned = s.checkUnaligned from rfl]
  split_ifs <;> rfl

/-! ### Where an access is made -/

section Access

variable {va pa : Word} {acc : Access} {s : State}

theorem translateThen_pa {α : Type} (h : s.translate va acc = .pa pa) (k : Word → Res α) :
    translateThen va acc s k = k pa := by
  rw [translateThen, h]

theorem translateThen_abort {α : Type} {e : Exc} (h : s.translate va acc = .abort e) (k : Word → Res α) :
    translateThen va acc s k = .exc e s := by
  rw [translateThen, h]

theorem translateThen_halt {α : Type} {f : Fault} (h : s.translate va acc = .halt f) (k : Word → Res α) :
    translateThen va acc s k = .halt f := by
  rw [translateThen, h]

/-- R107: a strict write that reaches one physical address stores there. -/
theorem memWrite_reaches {w : Width} (hstrict : acc.split = false) (h : s.reaches va w acc pa) (v : Word) :
    memWrite va w v acc s = .done (s.physWrite pa w v) := by
  obtain ⟨hE, ⟨halign, hpa⟩ | ⟨hsplit, -⟩⟩ := h
  · have whole : writeWhole va w v acc s = .done (s.physWrite pa w v) := translateThen_pa hpa _
    simp only [memWrite, hE, Bool.and_false, if_false, hstrict, whole, Bool.false_eq_true]
    obtain halign | ⟨-, hcheck⟩ := halign
    · simp [alignedTo, halign]
    · simp [hcheck]
  · exact absurd (hstrict.symm.trans hsplit) Bool.false_ne_true

/-- R102: a data write with CPSR.E = 1 halts. -/
theorem memWrite_bigEndian (hd : acc.fetch = false) (hE : psrE s.cpsr = true) (w : Width) (v : Word) :
    memWrite va w v acc s = .halt (.notImplemented .bigEndian) := by
  simp [memWrite, hd, hE]

/-- R107: a strict write at a misaligned address aborts with the alignment check on. -/
theorem memWrite_misaligned {w : Width} (hstrict : acc.split = false) (hE : psrE s.cpsr = false)
    (halign : va.toNat % w.bytes ≠ 0) (hcheck : s.checkUnaligned = true) (v : Word) :
    memWrite va w v acc s = .exc (.dataAbort va .alignment acc.write) s := by
  simp [memWrite, hE, alignedTo, halign, hstrict, hcheck]

end Access

/-! ### A write of several bytes -/

/-- The bytes of a value shifted down by a byte are those of the value from the next on. -/
theorem extractLsb'_shiftRight_byte (v : Word) (i : Nat) : (v >>> 8).extractLsb' i 8 = v.extractLsb' (8 + i) 8 := by
  ext j hj
  simp [Nat.add_assoc]

/-- Above its first address, an offset counts one more than from the next. -/
theorem toNat_sub_eq_succ {a pa : Word} (h : a ≠ pa) : (a - pa).toNat = (a - (pa + 1)).toNat + 1 := by
  have hne : a - pa ≠ 0 := fun h0 => h (by simpa using congrArg (· + pa) h0)
  rw [show a - (pa + 1) = a - pa - 1 by ring]
  generalize a - pa = x at hne
  bv_omega

/-- R103: the bytes that a write stores, the lowest at its address, as long as they do not come round to it again. -/
theorem Memory.stored_writeBytes : ∀ (n : Nat) {m : Memory} (pa v : Word), m.wf = true → n ≤ 2 ^ 32 →
    m.Stored pa n v (m.writeBytes pa n v)
  | 0, _, _, _, _, _ => fun _ => rfl
  | n + 1, m, pa, v, hm, hn => by
    intro a
    have ih := Memory.stored_writeBytes n (pa + 1) (v >>> 8) (Memory.write_wf pa (byteOf v 0) hm) (by omega) a
    rw [Memory.writeBytes, ih, Memory.read_write pa _ a hm]
    by_cases ha : a = pa
    · subst ha
      have hlast : (a - (a + 1)).toNat = 2 ^ 32 - 1 := by
        rw [show a - (a + 1) = (-1 : Word) by ring]
        rfl
      have hout : ¬ (a - (a + 1)).toNat < n := by omega
      rw [if_neg hout, if_pos rfl, BitVec.sub_self]
      rfl
    · rw [if_neg ha, toNat_sub_eq_succ ha, extractLsb'_shiftRight_byte, Nat.mul_succ, Nat.add_comm 8]
      simp only [Nat.succ_lt_succ_iff]

/-! ### LDREX, STREX and CLREX -/

theorem execLdrex_eq {o : LdrexOp} {s : State} (hr : (Instr.ldrex o).runs s) :
    exec (.ldrex o) s = finish (ldrexBody o.rn o.rt s.starting) := by
  refine Instr.exec_of_runs hr rfl ?_ (by dsimp only [exec]; rfl)
  simp [Instr.unpredictable, Bool.or_assoc]

theorem execStrex_eq {o : StrexOp} {s : State} (hr : (Instr.strex o).runs s) :
    exec (.strex o) s = finish (strexBody o.rn o.rd o.rt s.starting) := by
  refine Instr.exec_of_runs hr rfl ?_ (by dsimp only [exec]; rfl)
  simp [Instr.unpredictable, Bool.or_assoc]

theorem execClrex_eq {o : ClrexOp} {s : State} (hr : (Instr.clrex o).runs s) :
    exec (.clrex o) s = .next (State.advance { s with monitor := .idle }) := by
  refine Instr.exec_of_runs_always (body := fun s => .done { s with monitor := .idle }) hr ?_ (by dsimp only [exec]; rfl)
  simp [Instr.unpredictable, Bool.or_assoc]

/-- R342: a data abort that abandons a body is taken from the state in which the body started. -/
theorem finish_dataAbort (va : Word) (status : FaultStatus) (write : Bool) (s : State) :
    finish (.exc (.dataAbort va status write) s.starting) =
      takeException .dataAbort (s.pc + 8) (s.setMemoryAbort va status write) := rfl

section Ldrex

variable {rn rt : Reg} {s : State}

/-- R480: a read that answers reserves its physical address. -/
theorem ldrexBody_ok {data pa : Word} (hread : memRead (s.reg rn) .word (readAccess false false) s = .ok data s)
    (hpa : s.translate (s.reg rn) (readAccess false false) = .pa pa) :
    ldrexBody rn rt s.starting = .done ({ s.starting with monitor := .exclusive pa }.setReg rt data) := by
  have hread' := (memRead_starting (s.reg rn) .word (readAccess false false) s).trans (congrArg Res.starting hread)
  exact (congrArg (Res.andThen · _) hread').trans (translateThen_pa (s := s.starting) hpa _)

theorem ldrexBody_exc {e : Exc} (hread : memRead (s.reg rn) .word (readAccess false false) s = .exc e s) :
    ldrexBody rn rt s.starting = .exc e s.starting :=
  congrArg (Res.andThen · _) ((memRead_starting (s.reg rn) .word _ s).trans (congrArg Res.starting hread))

theorem ldrexBody_halt {f : Fault} (hread : memRead (s.reg rn) .word (readAccess false false) s = .halt f) :
    ldrexBody rn rt s.starting = .halt f :=
  congrArg (Res.andThen · _) ((memRead_starting (s.reg rn) .word _ s).trans (congrArg Res.starting hread))

end Ldrex

section Strex

variable {rn rd rt : Reg} {pa : Word} {s : State}

/-- R481: under another reservation, or none, nothing is stored. -/
theorem strexBody_unreserved (hpa : s.translate (s.reg rn) (writeAccess false false) = .pa pa)
    (hmon : s.monitor ≠ .exclusive pa) :
    strexBody rn rd rt s.starting = .done ({ s.starting with monitor := .idle }.setReg rd 1) :=
  (translateThen_pa (s := s.starting) hpa _).trans (if_neg hmon)

/-- R481: under its reservation the write is made. -/
theorem strexBody_reserved (hpa : s.translate (s.reg rn) (writeAccess false false) = .pa pa)
    (hmon : s.monitor = .exclusive pa) :
    strexBody rn rd rt s.starting =
      (memWrite (s.reg rn) .word (s.reg rt) (writeAccess false false) s.starting).andThen fun _ t =>
        .done ({ t with monitor := .idle }.setReg rd 0) :=
  (translateThen_pa (s := s.starting) hpa _).trans (if_pos hmon)

/-- R107: the address that a strict access reaches is that of its translation. -/
theorem State.reaches.translate {va : Word} {w : Width} {acc : Access} (hstrict : acc.split = false)
    (h : s.reaches va w acc pa) : s.translate va acc = .pa pa := by
  obtain ⟨-, ⟨-, hpa⟩ | ⟨hsplit, -⟩⟩ := h
  · exact hpa
  · exact absurd (hstrict.symm.trans hsplit) Bool.false_ne_true

theorem strexBody_stored (hreach : s.reaches (s.reg rn) .word (writeAccess false false) pa)
    (hmon : s.monitor = .exclusive pa) :
    strexBody rn rd rt s.starting =
      .done (State.setReg { s.starting with monitor := .idle, mem := s.mem.writeBytes pa 4 (s.reg rt) } rd 0) := by
  rw [strexBody_reserved (hreach.translate rfl) hmon, memWrite_reaches (s := s.starting) rfl hreach]
  rfl

end Strex

/-- R43: a register written after the monitor, at the boundary. -/
theorem State.commit_setReg_monitor (s : State) (mon : Monitor) (i : Reg) (v : Word) :
    (State.setReg { s.starting with monitor := mon } i v).commit =
      State.advance { s.setReg i v with monitor := mon } := by
  unfold State.setReg State.setRmode
  split <;> rfl

/-- R43: a register written after the monitor and memory, at the boundary. -/
theorem State.commit_setReg_monitor_mem (s : State) (mon : Monitor) (m : Memory) (i : Reg) (v : Word) :
    (State.setReg { s.starting with monitor := mon, mem := m } i v).commit =
      State.advance { s.setReg i v with monitor := mon, mem := m } := by
  unfold State.setReg State.setRmode
  split <;> rfl

/-- Settles O55: each exclusive by what its access answers. -/
theorem exclusiveAccessResults : Obligations.ExclusiveAccessResults := by
  refine ⟨fun o s hr => ?_, fun o s hr => ?_, fun o s hr => execClrex_eq hr⟩
  · rw [execLdrex_eq hr]
    refine ⟨fun data pa hread hpa => ?_, fun va status write hread => ?_, fun f hread => ?_⟩
    · rw [ldrexBody_ok hread hpa]
      exact congrArg Host.Outcome.next (s.commit_setReg_monitor (.exclusive pa) o.rt data)
    · rw [ldrexBody_exc hread, finish_dataAbort]
    · rw [ldrexBody_halt hread]
      rfl
  · rw [execStrex_eq hr]
    refine ⟨fun pa hpa hmon => ?_, fun pa hmem hreach hmon => ?_,
      fun pa hpa hmon => ⟨fun hE => ?_, fun hE halign hcheck => ?_⟩, fun va status write habort => ?_, fun f hhalt => ?_⟩
    · rw [strexBody_unreserved hpa hmon]
      exact congrArg Host.Outcome.next (s.commit_setReg_monitor .idle o.rd 1)
    · refine ⟨s.mem.writeBytes pa 4 (s.reg o.rt), ?_, Memory.stored_writeBytes 4 pa _ hmem (by decide)⟩
      rw [strexBody_stored hreach hmon]
      exact congrArg Host.Outcome.next (s.commit_setReg_monitor_mem .idle _ o.rd 0)
    · rw [strexBody_reserved hpa hmon, memWrite_bigEndian (s := s.starting) rfl hE]
      rfl
    · rw [strexBody_reserved hpa hmon, memWrite_misaligned (s := s.starting) rfl hE halign hcheck]
      exact finish_dataAbort _ _ _ s
    · exact congrArg finish (translateThen_abort (s := s.starting) habort _)
    · exact congrArg finish (translateThen_halt (s := s.starting) hhalt _)

end Sys2Proof.Machine
end

section
/-! SUPPORT. O10 (spec/20_memory.md): the body of an instruction that is not a store leaves memory as it was, whether it completes
or is abandoned at an exception, and so does what follows it. -/

namespace Sys2Proof.Machine

/-- R101: every state that the result leaves has the memory of `s`. -/
def Res.KeepsMem {α : Type} (s : State) (r : Res α) : Prop := r.Leads fun t => t.mem = s.mem

/-! ### The bodies that keep memory -/

theorem State.LoadedFrom.mem_eq {s t : State} (h : s.LoadedFrom t) : t.mem = s.mem := by
  obtain ⟨c, d, pb, rfl, -⟩ := h
  rfl

/-- R350, R411: a body that only loads. -/
theorem Res.Leads.keepsMem {s : State} {r : Res Unit} (h : r.Leads s.LoadedFrom) : r.KeepsMem s :=
  h.mono fun _ => State.LoadedFrom.mem_eq

/-- A body of two parts keeps memory if both do. -/
theorem Res.KeepsMem.andThen {α β : Type} {s : State} {r : Res α} {k : α → State → Res β} (h : r.KeepsMem s)
    (hk : ∀ a t, (k a t).KeepsMem t) : (r.andThen k).KeepsMem s :=
  Res.Leads.andThen h (fun a t ht => (hk a t).mono fun _ hu => hu.trans ht) fun _ ht => ht

theorem cpsrWriteByInstr_keepsMem (value : Word) (mask : BitVec 4) (ex : Bool) (s : State) :
    (cpsrWriteByInstr value mask ex s).KeepsMem s := by
  refine Res.leads_of_ok (fun t ht => ?_) fun e t => cpsrWriteByInstr_not_exc
  obtain ⟨rfl, -, -⟩ := cpsrWriteByInstr_ok ht
  rfl

theorem spsrWriteByInstr_keepsMem (value : Word) (mask : BitVec 4) (s : State) :
    (spsrWriteByInstr value mask s).KeepsMem s := by
  refine Res.leads_of_ok (fun t ht => ?_) fun e t => spsrWriteByInstr_not_exc
  obtain ⟨old, -, rfl⟩ := spsrWriteByInstr_ok ht
  rfl

theorem exceptionReturn_keepsMem (target : Word) (s : State) : (exceptionReturn target s).KeepsMem s := by
  refine Res.leads_of_ok (fun t ht => ?_) fun e t => exceptionReturn_not_exc
  obtain ⟨spsr, -, -, -, -, rfl⟩ := exceptionReturn_ok ht
  rfl

theorem writeDP_keepsMem (rd : Reg) (sf : Bool) (result : Word) (c v : Bool) (s : State) :
    (writeDP rd sf result c v s).KeepsMem s := by
  unfold writeDP
  split
  · split
    · exact exceptionReturn_keepsMem result s
    · exact (bxWritePC_leads result s).keepsMem
  · refine Eq.trans ?_ (s.setReg_mem rd result)
    split <;> rfl

theorem mrsBody_keepsMem (r : Bool) (rd : Reg) (s : State) : (mrsBody r rd s).KeepsMem s := by
  unfold mrsBody
  split
  · split
    · trivial
    · exact s.setReg_mem rd _
  · exact s.setReg_mem rd _

theorem msrBody_keepsMem (r : Bool) (mask : BitVec 4) (value : Word) (s : State) :
    (msrBody r mask value s).KeepsMem s := by
  unfold msrBody
  split
  · exact spsrWriteByInstr_keepsMem value mask s
  · exact cpsrWriteByInstr_keepsMem value mask false s

/-- R453: CPS writes CPSR, and in User mode nothing. -/
theorem cps_keepsMem (value : Word) (s : State) :
    (if s.privileged then cpsrWriteByInstr value 0b1111 false s else .done s).KeepsMem s := by
  split
  · exact cpsrWriteByInstr_keepsMem value _ false s
  · rfl

theorem mulWrite_keepsMem (rd : Reg) (sf : Bool) (result : Word) (s : State) : (mulWrite rd sf result s).KeepsMem s :=
  (State.mulFlags_mem _ sf _ _).trans (s.setReg_mem rd result)

theorem mulLongWrite_keepsMem (rdHi rdLo : Reg) (sf : Bool) (result : BitVec 64) (s : State) :
    (mulLongWrite rdHi rdLo sf result s).KeepsMem s :=
  (State.mulFlags_mem _ sf _ _).trans ((State.setReg_mem _ rdLo _).trans (s.setReg_mem rdHi _))

theorem cp15WriteBody_keepsMem (k : Cp15Key) (v : Word) (s : State) : (cp15WriteBody k v s).KeepsMem s := by
  unfold cp15WriteBody
  split
  · trivial
  · split
    · trivial
    · split <;> rfl

theorem mrcWrite_mem (rt : Reg) (v : Word) (s : State) : (mrcWrite rt v s).mem = s.mem := by
  unfold mrcWrite
  split
  · rfl
  · exact s.setReg_mem rt v

/-- R491: an MRC's read leaves the state as it was; only its destination is written. -/
theorem mrc_keepsMem (k : Cp15Key) (rt : Reg) (s : State) :
    ((cp15ReadBody k s).andThen fun v t => .done (mrcWrite rt v t)).KeepsMem s :=
  Res.KeepsMem.andThen ((cp15ReadBody_leads k s).mono fun _ h => h ▸ rfl) fun v t => mrcWrite_mem rt v t

/-- R467: WFI starts a wait, or nothing. -/
theorem wfi_mem (s : State) : (if s.irqPending || s.fiqPending then s else { s with waiting := true }).mem = s.mem := by
  split <;> rfl

theorem ldrexBody_keepsMem (rn rt : Reg) (s : State) : (ldrexBody rn rt s).KeepsMem s :=
  (ldrexBody_leads rn rt s).mono fun t ⟨mon, h⟩ => (h.mem_eq : t.mem = State.mem { s with monitor := mon })

/-- R421: LDM (exception return) loads registers and returns. -/
theorem ldmExcBody_keepsMem (o : LdmExcOp) (s : State) : (ldmExcBody o s).KeepsMem s :=
  ldmExcBody_leads (fun t m i v h => (t.setRmode_mem m i v).trans h) (fun t m i h => (t.drawReg_mem m i).trans h)
    (fun v t h => (exceptionReturn_keepsMem v t).mono fun _ hu => hu.trans h) o s rfl

/-! ### What follows a body -/

/-- R521: the entry of an exception writes no memory. -/
theorem raise_mem {e : Exc} {s t : State} (h : raise e s = .next t) : t.mem = s.mem := by
  obtain ⟨-, rfl⟩ | ⟨-, rfl⟩ | ⟨va, st, wr, -, rfl⟩ | ⟨va, st, -, rfl⟩ := raise_next h <;> simp

theorem finish_mem {r : Res Unit} {s t : State} (hr : r.KeepsMem s) (h : finish r = .next t) : t.mem = s.mem := by
  obtain ⟨u, rfl, rfl⟩ | ⟨e, u, rfl, he⟩ := finish_next h
  · exact hr
  · exact (raise_mem he).trans hr

/-- R13, R14: an instruction whose body keeps memory keeps it, its condition passed or failed. -/
theorem runInstr_mem {cond : Cond} {cases : List (Bool × Unpred)} {body : State → Res Unit} {s t : State} {o : Out}
    (h : o = .next t) (hexec : o = runInstr cond cases s body) (hbody : ∀ s, (body s).KeepsMem s) : t.mem = s.mem := by
  obtain ⟨-, ⟨-, rfl⟩ | ⟨-, hf⟩⟩ := runInstr_next (hexec.symm.trans h)
  · rfl
  · exact finish_mem (hbody { s with pendingBranch := none }) hf

/-- R176: the same without a condition. -/
theorem runAlways_mem {cases : List (Bool × Unpred)} {body : State → Res Unit} {s t : State} {o : Out}
    (h : o = .next t) (hexec : o = runAlways cases s body) (hbody : ∀ s, (body s).KeepsMem s) : t.mem = s.mem :=
  runInstr_mem h hexec hbody

end Sys2Proof.Machine

namespace Sys2Proof

open Machine

/-- R101, R104: an instruction that is not a store keeps memory. The instructions are grouped by their body. -/
theorem exec_mem_of_not_mayStore {i : Instr} {s t : State} (hi : i.mayStore = false) (h : exec i s = .next t) :
    t.mem = s.mem := by
  cases i with
  | strhtImm o | strhtReg o | strhImm o | strhReg o | strtImm o | strtReg o | strImm o | strReg o | strbtImm o
  | strbtReg o | strbImm o | strbReg o | strdImm o | strdReg o | strex o | stmda o | stm o | stmdb o | stmib o
  | stmUser o =>
    exact absurd hi Bool.noConfusion
  | undefUncondMisc w | undefUncond1100000 w | mcrr2 o | stc2 o | cdp2 o | mcr2 o | undefUncondOther w
  | mrsMsrBanked w | eret w | hvc w | undefMisc w | undefMultiply0101 w | undefMultiply0111 w | undefSync w
  | udf o | undefCoproc00000 w | undefAnyOther w =>
    exact raise_mem (e := .undefined) h
  | memHintImm w | pliImm o | pldwImm o | pldImm o | dsb o | dmb o | isb o | memHintReg w | pliReg o
  | pldwReg o | pldReg o | setend o | clrex o =>
    refine runAlways_mem h (by dsimp only [exec]; rfl) ?_
    exact fun _ => rfl
  | nop o | yield o | wfe o | sev o | dbg o | hintUnallocated o | svc o | mcrr o | stc o | cdp o | mcrOther o
  | tstImm o | tstReg o | tstRsr o | teqImm o | teqReg o | teqRsr o | cmpImm o | cmpReg o | cmpRsr o
  | cmnImm o | cmnReg o | cmnRsr o | b o =>
    refine runInstr_mem h (by dsimp only [exec]; rfl) ?_
    exact fun _ => rfl
  | wfi o =>
    refine runInstr_mem h (by dsimp only [exec]; rfl) ?_
    exact wfi_mem
  | cps o =>
    refine runAlways_mem h (by dsimp only [exec]; rfl) ?_
    exact fun s => cps_keepsMem _ s
  | mrs o =>
    refine runInstr_mem h (by dsimp only [exec]; rfl) ?_
    exact mrsBody_keepsMem o.r o.rd
  | msrReg o | msrImm o =>
    refine runInstr_mem h (by dsimp only [exec]; rfl) ?_
    exact fun s => msrBody_keepsMem o.r o.mask _ s
  | mcrP15 o =>
    refine runInstr_mem h (by dsimp only [exec]; rfl) ?_
    exact fun s => cp15WriteBody_keepsMem _ _ s
  | mrcP15 o =>
    refine runInstr_mem h (by dsimp only [exec]; rfl) ?_
    exact fun s => mrc_keepsMem _ o.rt s
  | bl o | clz o | movw o | movt o | sxtb16 o | sxtab16 o | sxtb o | sxtab o | sxth o | sxtah o | uxtb16 o
  | uxtab16 o | uxtb o | uxtab o | uxth o | uxtah o | rev o | rev16 o | revsh o | sbfx o | bfc o | bfi o
  | ubfx o =>
    refine runInstr_mem h (by dsimp only [exec]; rfl) ?_
    exact fun s => s.setReg_mem _ _
  | bx o | bxj o =>
    refine runInstr_mem h (by dsimp only [exec]; rfl) ?_
    exact fun s => (bxWritePC_leads _ s).keepsMem
  | blxReg o =>
    refine runInstr_mem h (by dsimp only [exec]; rfl) ?_
    exact fun s => (bxWritePC_leads _ _).mono fun _ hu => hu.mem_eq.trans (s.setReg_mem lrReg _)
  | andImm o | andReg o | andRsr o | eorImm o | eorReg o | eorRsr o | subImm o | subReg o | subRsr o | rsbImm o
  | rsbReg o | rsbRsr o | addImm o | addReg o | addRsr o | adcImm o | adcReg o | adcRsr o | sbcImm o | sbcReg o
  | sbcRsr o | rscImm o | rscReg o | rscRsr o | orrImm o | orrReg o | orrRsr o | bicImm o | bicReg o | bicRsr o
  | movImm o | movReg o | rrx o | lslImm o | lsrImm o | asrImm o | rorImm o | lslReg o | lsrReg o | asrReg o
  | rorReg o | mvnImm o | mvnReg o | mvnRsr o =>
    refine runInstr_mem h (by dsimp only [exec]; rfl) ?_
    exact fun s => writeDP_keepsMem o.rd o.s _ _ _ s
  | mul o | mla o | mls o =>
    refine runInstr_mem h (by dsimp only [exec]; rfl) ?_
    exact fun s => mulWrite_keepsMem o.rd _ _ s
  | umull o | umlal o | smull o | smlal o =>
    refine runInstr_mem h (by dsimp only [exec]; rfl) ?_
    exact fun s => mulLongWrite_keepsMem o.rdHi o.rdLo o.s _ s
  | ldrhtImm o | ldrhtReg o | ldrhImm o | ldrhReg o | ldrsbtImm o | ldrsbtReg o | ldrsbImm o | ldrsbReg o
  | ldrshtImm o | ldrshtReg o | ldrshImm o | ldrshReg o | ldrtImm o | ldrtReg o | ldrbtImm o | ldrbtReg o
  | ldrbImm o | ldrbReg o =>
    refine runInstr_mem h (by dsimp only [exec]; rfl) ?_
    exact fun s => (loadBody_leads _ _ _ _ _ o.rn o.rt s).keepsMem
  | ldrImm o | ldrReg o =>
    refine runInstr_mem h (by dsimp only [exec]; rfl) ?_
    exact fun s => (loadWordBody_leads _ o.rn o.rt s).keepsMem
  | ldrdImm o | ldrdReg o =>
    refine runInstr_mem h (by dsimp only [exec]; rfl) ?_
    exact fun s => (loadDualBody_leads _ o.rn o.rt s).keepsMem
  | ldrex o =>
    refine runInstr_mem h (by dsimp only [exec]; rfl) ?_
    exact ldrexBody_keepsMem o.rn o.rt
  | ldmda o | ldm o | ldmdb o | ldmib o =>
    refine runInstr_mem h (by dsimp only [exec]; rfl) ?_
    exact fun s => (ldmBody_leads _ _ o.w o.rn o.registers s).keepsMem
  | ldmUser o =>
    refine runInstr_mem h (by dsimp only [exec]; rfl) ?_
    exact fun s => (ldmUserBody_leads o s).keepsMem
  | ldmExcReturn o =>
    refine runInstr_mem h (by dsimp only [exec]; rfl) ?_
    exact ldmExcBody_keepsMem o
  | qadd o | smc o | swp o => exact nomatch (apply_ite _ _ _ _).trans h
  | _ => exact nomatch h

/-- Settles O10: only a store's body writes memory, and neither an advance nor the entry of an exception does. -/
theorem onlyStoresChangeMemory : Obligations.OnlyStoresChangeMemory :=
  fun _ _ _ hi h a => congrArg (Memory.read · a) (exec_mem_of_not_mayStore hi h)

end Sys2Proof
end

section
/-! SUPPORT. O31 and O32 (spec/20_memory.md): the value that bytes compose, and the accesses of R107: made at one address, refused,
or split into bytes. -/

namespace Sys2Proof.Machine

/-! ### The value of a few bytes -/

theorem add_one_add_ofNat (pa : Word) (k : Nat) : pa + 1 + BitVec.ofNat 32 k = pa + BitVec.ofNat 32 (k + 1) := by
  rw [Nat.add_comm k 1, BitVec.ofNat_add, BitVec.add_assoc]
  rfl

/-- A byte below a value of at most three bytes: their sum, without a carry. -/
theorem toNat_place_or_shiftLeft {b : Byte} {x : Word} (hx : x.toNat < 2 ^ 24) :
    (place b 0 ||| x <<< 8).toNat = b.toNat + x.toNat * 2 ^ 8 := by
  have hb : b.toNat < 2 ^ 8 := b.isLt
  have hlow : (place b 0).toNat = b.toNat := by simp [place]; omega
  have hhigh : (x <<< 8).toNat = x.toNat <<< 8 := by
    rw [BitVec.toNat_shiftLeft, Nat.mod_eq_of_lt]
    rw [Nat.shiftLeft_eq]
    omega
  rw [BitVec.toNat_or, hlow, hhigh, Nat.or_comm, ← Nat.shiftLeft_add_eq_or_of_lt hb, Nat.shiftLeft_eq, Nat.add_comm]

theorem joinBytes_toNat_lt (byte : Word → Byte) : ∀ (n : Nat) (pa : Word), n ≤ 4 → (joinBytes byte pa n).toNat < 2 ^ (8 * n)
  | 0, _, _ => Nat.one_pos
  | n + 1, pa, hn => by
    have ih := joinBytes_toNat_lt byte n (pa + 1) (by omega)
    have hrest : (joinBytes byte (pa + 1) n).toNat < 2 ^ 24 :=
      ih.trans_le (Nat.pow_le_pow_right Nat.two_pos (by omega))
    have hb : (byte pa).toNat < 2 ^ 8 := (byte pa).isLt
    rw [joinBytes, toNat_place_or_shiftLeft hrest, Nat.mul_succ, Nat.pow_add]
    omega

/-- R103: the value of at most four bytes is their sum, the lowest address least significant. -/
theorem joinBytes_toNat (byte : Word → Byte) : ∀ (n : Nat) (pa : Word), n ≤ 4 →
    (joinBytes byte pa n).toNat
      = ((List.range n).map fun k => (byte (pa + BitVec.ofNat 32 k)).toNat * 2 ^ (8 * k)).sum
  | 0, _, _ => rfl
  | n + 1, pa, hn => by
    have hrest : (joinBytes byte (pa + 1) n).toNat < 2 ^ 24 :=
      (joinBytes_toNat_lt byte n (pa + 1) (by omega)).trans_le (Nat.pow_le_pow_right Nat.two_pos (by omega))
    rw [joinBytes, toNat_place_or_shiftLeft hrest, joinBytes_toNat byte n (pa + 1) (by omega),
      List.range_succ_eq_map, List.map_cons, List.sum_cons, List.map_map, ← List.sum_map_mul_right]
    refine congrArg₂ (· + ·) ?_ (congrArg List.sum (List.map_congr_left fun k _ => ?_))
    · rw [Nat.mul_zero, Nat.pow_zero, Nat.mul_one, BitVec.add_zero]
    · rw [add_one_add_ofNat, Nat.mul_assoc, ← Nat.pow_add]
      rfl

/-- R103: byte `k` of the value of at most four bytes is the one at address `k`. -/
theorem extractLsb'_joinBytes (byte : Word → Byte) : ∀ (n : Nat) (pa : Word) (k : Nat), n ≤ 4 → k < n →
    (joinBytes byte pa n).extractLsb' (8 * k) 8 = byte (pa + BitVec.ofNat 32 k)
  | n + 1, pa, 0, _, _ => by
    ext i hi
    have hi32 : i < 32 := by omega
    simp [joinBytes, place, hi, hi32]
  | n + 1, pa, k + 1, hn, hk => by
    rw [← add_one_add_ofNat, ← extractLsb'_joinBytes byte n (pa + 1) k (by omega) (by omega)]
    ext i hi
    have hin : 8 * (k + 1) + i < 32 := by omega
    have hin' : 8 * k + i < 32 := by omega
    have hsub : 8 * (k + 1) + i - 8 = 8 * k + i := by omega
    have hbyte : (byte pa).getLsbD (8 * (k + 1) + i) = false := BitVec.getLsbD_of_ge _ _ (by omega)
    simp [joinBytes, place, hin, hin', hsub, hbyte, BitVec.getLsbD_eq_getElem, show ¬ 8 * (k + 1) + i < 8 by omega]

theorem Width.bytes_le_four (w : Width) : w.bytes ≤ 4 := by
  cases w <;> decide

theorem not_volatileAt {p : Params} {pa : Word} (h : ∀ x ∈ p.volatile, ¬ (x.first ≤ pa ∧ pa ≤ x.last)) :
    volatileAt p pa = false := by
  rw [← Bool.not_eq_true, volatileAt_iff]
  exact fun ⟨x, hx, hin⟩ => h x hx hin

/-- Settles O31: the laws of the memory, and the sum that bytes compose. -/
theorem memoryIsLittleEndianBytes : Obligations.MemoryIsLittleEndianBytes := by
  intro s r pa v w hmem
  refine ⟨joinBytes_toNat (s.portByte r) w.bytes pa w.bytes_le_four, fun hplain => ?_, fun x hx hlo hhi => ?_,
    Memory.stored_writeBytes w.bytes pa v hmem (w.bytes_le_four.trans (by decide)), State.physWrite_wf pa w v hmem⟩
  · exact State.portByte_plain r (not_volatileAt hplain)
  · exact State.portByte_volatile r ((volatileAt_iff _ pa).mpr ⟨x, hx, hlo, hhi⟩)

/-! ### Which way an access is made (R107) -/

/-- R110: with the MMU off a virtual address is its physical address. -/
theorem State.translate_of_mmu_off {s : State} (h : s.mmuEnabled = false) (va : Word) (acc : Access) :
    s.translate va acc = .pa va := by
  simp [State.translate, h]

section Access

variable {s : State} {va : Word} {w : Width} {acc : Access}

/-- R102: a data read with CPSR.E = 1 halts. -/
theorem memRead_bigEndian (hd : acc.fetch = false) (hE : psrE s.cpsr = true) :
    memRead va w acc s = .halt (.notImplemented .bigEndian) := by
  simp [memRead, hd, hE]

/-- R102: a fetch, and any access with CPSR.E = 0, goes on. -/
theorem not_bigEndian (h : acc.fetch = true ∨ psrE s.cpsr = false) : (!acc.fetch && psrE s.cpsr) = false := by
  obtain h | h := h <;> simp [h]

/-- R107: an aligned or passed-through access is one read, or one write. -/
theorem memRead_whole (hE : acc.fetch = true ∨ psrE s.cpsr = false)
    (hw : va.toNat % w.bytes = 0 ∨ (acc.split = false ∧ s.checkUnaligned = false)) :
    memRead va w acc s = readWhole va w acc s := by
  obtain halign | ⟨hstrict, hcheck⟩ := hw
  · simp [memRead, not_bigEndian hE, alignedTo, halign]
  · simp [memRead, not_bigEndian hE, hstrict, hcheck]

theorem memWrite_whole (hE : acc.fetch = true ∨ psrE s.cpsr = false)
    (hw : va.toNat % w.bytes = 0 ∨ (acc.split = false ∧ s.checkUnaligned = false)) (v : Word) :
    memWrite va w v acc s = writeWhole va w v acc s := by
  obtain halign | ⟨hstrict, hcheck⟩ := hw
  · simp [memWrite, not_bigEndian hE, alignedTo, halign]
  · simp [memWrite, not_bigEndian hE, hstrict, hcheck]

/-- R107: a strict misaligned access with the alignment check on is an alignment fault. -/
theorem memRead_alignmentFault (hE : acc.fetch = true ∨ psrE s.cpsr = false) (halign : va.toNat % w.bytes ≠ 0)
    (hstrict : acc.split = false) (hcheck : s.checkUnaligned = true) :
    memRead va w acc s = .exc (.dataAbort va .alignment acc.write) s := by
  simp [memRead, not_bigEndian hE, alignedTo, halign, hstrict, hcheck]

theorem memWrite_alignmentFault (hE : acc.fetch = true ∨ psrE s.cpsr = false) (halign : va.toNat % w.bytes ≠ 0)
    (hstrict : acc.split = false) (hcheck : s.checkUnaligned = true) (v : Word) :
    memWrite va w v acc s = .exc (.dataAbort va .alignment acc.write) s := by
  simp [memWrite, not_bigEndian hE, alignedTo, halign, hstrict, hcheck]

/-- R107: a misaligned access of the split class is made byte by byte. -/
theorem memRead_split (hE : acc.fetch = true ∨ psrE s.cpsr = false) (halign : va.toNat % w.bytes ≠ 0)
    (hsplit : acc.split = true) : memRead va w acc s = readSplit va acc s w.bytes := by
  simp [memRead, not_bigEndian hE, alignedTo, halign, hsplit]

theorem memWrite_split (hE : acc.fetch = true ∨ psrE s.cpsr = false) (halign : va.toNat % w.bytes ≠ 0)
    (hsplit : acc.split = true) (v : Word) : memWrite va w v acc s = writeSplit va acc v s w.bytes := by
  simp [memWrite, not_bigEndian hE, alignedTo, halign, hsplit]

end Access

/-! ### Split reads -/

/-- R107, R103: the byte that a split read gets from `va`, where it is translated. -/
def State.splitByte (s : State) (acc : Access) (va : Word) : Byte :=
  match s.translate va acc with
  | .pa pa => s.portByte (acc.reading .bytes va) pa
  | _ => 0

theorem State.splitByte_of_pa {s : State} {acc : Access} {va pa : Word} (h : s.translate va acc = .pa pa) :
    s.splitByte acc va = s.portByte (acc.reading .bytes va) pa := by
  rw [State.splitByte, h]

theorem State.physRead_byte (s : State) (r : PortRead) (pa : Word) : s.physRead r pa .byte = place (s.portByte r pa) 0 := by
  simp [State.physRead, Width.bytes, joinBytes]

/-- R107: a split read whose bytes are all translated composes them. -/
theorem readSplit_ok {acc : Access} {s : State} : ∀ {n : Nat} {va : Word},
    (∀ k < n, ∃ pa, s.translate (va + BitVec.ofNat 32 k) acc = .pa pa) →
    readSplit va acc s n = .ok (joinBytes (s.splitByte acc) va n) s
  | 0, _, _ => rfl
  | n + 1, va, h => by
    obtain ⟨pa, hpa⟩ := h 0 n.succ_pos
    rw [BitVec.add_zero] at hpa
    have hrest : readSplit (va + 1) acc s n = .ok (joinBytes (s.splitByte acc) (va + 1) n) s :=
      readSplit_ok fun k hk => (add_one_add_ofNat va k).symm ▸ h (k + 1) (Nat.succ_lt_succ hk)
    rw [readSplit, translateThen_pa hpa, hrest, joinBytes, State.splitByte_of_pa hpa, ← State.physRead_byte]
    rfl

/-- R12: a piece that does not end well abandons what follows it. -/
theorem Res.andThen_of_not_ok {α : Type} {r : Res α} (h : ∀ a t, r ≠ .ok a t) (k : α → State → Res α) : r.andThen k = r := by
  cases r with
  | ok a t => exact absurd rfl (h a t)
  | exc e t => rfl
  | halt f => rfl

/-- R107: a split read ends as its bytes from the `k`-th on do, if these do not end well and the earlier ones are translated. -/
theorem readSplit_of_rest {acc : Access} {s : State} {r : Res Word} (hr : ∀ a t, r ≠ .ok a t) {m : Nat} :
    ∀ {k : Nat} {va : Word}, (∀ j < k, ∃ pa, s.translate (va + BitVec.ofNat 32 j) acc = .pa pa) →
      readSplit (va + BitVec.ofNat 32 k) acc s m = r → readSplit va acc s (k + m) = r
  | 0, va, _, hrest => by
    rwa [Nat.zero_add, ← BitVec.add_zero va]
  | k + 1, va, h, hrest => by
    obtain ⟨pa, hpa⟩ := h 0 k.succ_pos
    rw [BitVec.add_zero] at hpa
    rw [← add_one_add_ofNat] at hrest
    have hnext : readSplit (va + 1) acc s (k + m) = r :=
      readSplit_of_rest hr (fun j hj => (add_one_add_ofNat va j).symm ▸ h (j + 1) (Nat.succ_lt_succ hj)) hrest
    rw [Nat.succ_add, readSplit, translateThen_pa hpa, hnext, Res.andThen_of_not_ok hr]

section

variable {acc : Access} {s : State} {k n : Nat} {va : Word}

/-- R108: the first byte that aborts is the abort of the read. -/
theorem readSplit_abort {e : Exc} (hk : k < n) (h : ∀ j < k, ∃ pa, s.translate (va + BitVec.ofNat 32 j) acc = .pa pa)
    (he : s.translate (va + BitVec.ofNat 32 k) acc = .abort e) : readSplit va acc s n = .exc e s := by
  obtain ⟨m, rfl⟩ := Nat.exists_eq_add_of_lt hk
  exact readSplit_of_rest (m := m + 1) (by simp) h (translateThen_abort he _)

/-- R113: the first byte whose translation halts is the halt of the read. -/
theorem readSplit_halt {f : Fault} (hk : k < n) (h : ∀ j < k, ∃ pa, s.translate (va + BitVec.ofNat 32 j) acc = .pa pa)
    (hf : s.translate (va + BitVec.ofNat 32 k) acc = .halt f) : readSplit va acc s n = .halt f := by
  obtain ⟨m, rfl⟩ := Nat.exists_eq_add_of_lt hk
  exact readSplit_of_rest (m := m + 1) (by simp) h (translateThen_halt hf _)

end

/-! ### Split writes -/

/-- R107: the write of byte `k` of a value. -/
theorem State.physWrite_byte (s : State) (pa v : Word) (k : Nat) :
    s.physWrite pa .byte (v >>> (8 * k)) = { s with mem := s.mem.write pa (v.extractLsb' (8 * k) 8) } := by
  have hbyte : byteOf (v >>> (8 * k)) 0 = v.extractLsb' (8 * k) 8 := by
    ext i hi
    simp [byteOf]
  rw [← hbyte]
  rfl

section

variable {acc : Access} {s : State} {va v : Word} {k n : Nat} {σ : Nat → Memory}

theorem State.bytesStored.of_succ (h : s.bytesStored va acc v (k + 1) σ) : s.bytesStored va acc v k σ :=
  ⟨h.1, fun j hj => h.2 j (Nat.lt_succ_of_lt hj)⟩

/-- R107, R108: a split write of `k + m` bytes whose first `k` bytes are stored goes on with the others. -/
theorem writeSplit_of_stored : ∀ {k : Nat}, s.bytesStored va acc v k σ → ∀ m : Nat,
    writeSplit va acc v s (k + m)
      = writeSplit (va + BitVec.ofNat 32 k) acc (v >>> (8 * k)) { s with mem := σ k } m
  | 0, ⟨hstart, _⟩, m => by
    rw [hstart, Nat.zero_add, BitVec.add_zero]
    rfl
  | k + 1, h, m => by
    obtain ⟨pa, hpa, hnext⟩ := h.2 k k.lt_succ_self
    rw [Nat.succ_add_eq_add_succ, writeSplit_of_stored h.of_succ, writeSplit, translateThen_pa hpa, hnext,
      State.physWrite_byte, BitVec.add_assoc, ← BitVec.shiftRight_add, BitVec.ofNat_add, Nat.mul_succ]
    rfl

theorem writeSplit_done (h : s.bytesStored va acc v n σ) : writeSplit va acc v s n = .ok () { s with mem := σ n } :=
  writeSplit_of_stored h 0

/-- R108: a byte that aborts keeps the bytes before it stored. -/
theorem writeSplit_abort {e : Exc} (hk : k < n) (h : s.bytesStored va acc v k σ)
    (he : State.translate { s with mem := σ k } (va + BitVec.ofNat 32 k) acc = .abort e) :
    writeSplit va acc v s n = .exc e { s with mem := σ k } := by
  obtain ⟨m, rfl⟩ := Nat.exists_eq_add_of_lt hk
  exact (writeSplit_of_stored h (m + 1)).trans (translateThen_abort he _)

theorem writeSplit_halt {f : Fault} (hk : k < n) (h : s.bytesStored va acc v k σ)
    (hf : State.translate { s with mem := σ k } (va + BitVec.ofNat 32 k) acc = .halt f) :
    writeSplit va acc v s n = .halt f := by
  obtain ⟨m, rfl⟩ := Nat.exists_eq_add_of_lt hk
  exact (writeSplit_of_stored h (m + 1)).trans (translateThen_halt hf _)

end

/-- R107, R110: with the MMU off a split write stores its bytes at its own address. -/
theorem writeSplit_of_mmu_off {acc : Access} : ∀ (n : Nat) {s : State} (va v : Word), s.mmuEnabled = false →
    writeSplit va acc v s n = .ok () { s with mem := s.mem.writeBytes va n v }
  | 0, _, _, _, _ => rfl
  | n + 1, s, va, v, h => by
    rw [writeSplit, translateThen_pa (State.translate_of_mmu_off h va acc)]
    exact writeSplit_of_mmu_off n (s := s.physWrite va .byte v) _ _ h

/-- Settles O32: the ways of R107, and for the split one the byte accesses from the first to the one that fails. -/
theorem accessesFollowTheAlignmentRule : Obligations.AccessesFollowTheAlignmentRule := by
  intro s va v w acc
  refine ⟨fun hd hE => ⟨memRead_bigEndian hd hE, memWrite_bigEndian hd hE w v⟩, fun hE =>
    ⟨fun pa hw hpa => ?_, fun hw => ?_, fun halign hstrict hcheck => ?_, fun halign hsplit => ?_⟩⟩
  · rw [memRead_whole hE hw, memWrite_whole hE hw]
    exact ⟨translateThen_pa hpa _, translateThen_pa hpa _⟩
  · rw [memRead_whole hE hw, memWrite_whole hE hw]
    exact ⟨fun e he => ⟨translateThen_abort he _, translateThen_abort he _⟩,
      fun f hf => ⟨translateThen_halt hf _, translateThen_halt hf _⟩⟩
  · exact ⟨memRead_alignmentFault hE halign hstrict hcheck, memWrite_alignmentFault hE halign hstrict hcheck v⟩
  · rw [memRead_split hE halign hsplit, memWrite_split hE halign hsplit]
    have hw : w.bytes ≤ 4 := w.bytes_le_four
    refine ⟨fun pas hpas => ?_, fun k pas hk hpas => ?_, fun k σ hσ => ?_, fun hmem hmmu => ?_⟩
    · have hbyte (k : Nat) (hk : k < w.bytes) := State.splitByte_of_pa (hpas k hk)
      refine ⟨_, readSplit_ok fun k hk => ⟨_, hpas k hk⟩, ?_, fun k hk => ?_⟩
      · rw [joinBytes_toNat _ _ _ hw]
        exact congrArg List.sum (List.map_congr_left fun k hk => by rw [hbyte k (List.mem_range.mp hk)])
      · rw [extractLsb'_joinBytes _ _ _ _ hw hk, hbyte k hk]
    · have hbefore (j : Nat) (hj : j < k) : ∃ pa, s.translate (va + BitVec.ofNat 32 j) acc = .pa pa := ⟨_, hpas j hj⟩
      exact ⟨fun e he => readSplit_abort hk hbefore he, fun f hf => readSplit_halt hk hbefore hf⟩
    · refine ⟨fun hk => ?_, fun hk e he => writeSplit_abort hk hσ he, fun hk f hf => writeSplit_halt hk hσ hf⟩
      subst hk
      exact writeSplit_done hσ
    · exact ⟨_, writeSplit_of_mmu_off w.bytes va v hmmu,
        Memory.stored_writeBytes w.bytes va v hmem (hw.trans (by decide))⟩

end Sys2Proof.Machine
end

section
/-! SUPPORT. O33 to O36 (spec/20_memory.md): the walk as the statements write it, with exact numbers, what each descriptor leads
to, the order of the checks, and the permission table. -/

namespace Sys2Proof.Machine

/-! ### The first-level descriptor (R110) -/

/-- The low `k` bits of a word cleared and given to a number below `2 ^ k`. -/
theorem toNat_clearLow_or {x y : Word} {k : Nat} (hy : y.toNat < 2 ^ k) :
    (x >>> k <<< k ||| y).toNat = x.toNat / 2 ^ k * 2 ^ k + y.toNat := by
  have hclear : (x >>> k <<< k).toNat = (x.toNat / 2 ^ k) <<< k := by
    rw [BitVec.toNat_shiftLeft, BitVec.toNat_ushiftRight, Nat.shiftRight_eq_div_pow, Nat.mod_eq_of_lt]
    rw [Nat.shiftLeft_eq]
    exact (Nat.div_mul_le_self _ _).trans_lt x.isLt
  rw [BitVec.toNat_or, hclear, ← Nat.shiftLeft_add_eq_or_of_lt hy, Nat.shiftLeft_eq]

/-- R110: the index of a first-level descriptor, in bytes. -/
theorem toNat_sectionIndex (va : Word) : (va >>> 20 <<< 2).toNat = va.toNat / 2 ^ 20 * 4 := by
  have hva : va.toNat < 2 ^ 32 := va.isLt
  rw [BitVec.toNat_shiftLeft, BitVec.toNat_ushiftRight, Nat.shiftRight_eq_div_pow, Nat.shiftLeft_eq, Nat.mod_eq_of_lt]
  omega

/-- R110: below the split an index stays within its table. -/
theorem sectionIndex_lt {a n : Nat} (hn : n < 8) (ha : a < 2 ^ (32 - n)) : a / 2 ^ 20 * 4 < 2 ^ (14 - n) := by
  have hpow : 2 ^ (32 - n) = 2 ^ 20 * 2 ^ (12 - n) := by rw [← Nat.pow_add]; congr 1; omega
  have hdiv : a / 2 ^ 20 < 2 ^ (12 - n) := Nat.div_lt_of_lt_mul (hpow ▸ ha)
  rw [show 14 - n = 12 - n + 2 by omega, Nat.pow_add]
  omega

/-- Leading zeros survive a shift up and down. -/
theorem shiftLeft_shiftRight_of_lt {x : Word} {n : Nat} (hn : n ≤ 32) (hx : x.toNat < 2 ^ (32 - n)) :
    x <<< n >>> n = x := by
  have hpow : 2 ^ (32 - n) * 2 ^ n = 2 ^ 32 := by rw [← Nat.pow_add, Nat.sub_add_cancel hn]
  have hlt : x.toNat * 2 ^ n < 2 ^ 32 := hpow ▸ Nat.mul_lt_mul_of_pos_right hx (Nat.two_pow_pos n)
  apply BitVec.eq_of_toNat_eq
  rw [BitVec.toNat_ushiftRight, BitVec.toNat_shiftLeft, Nat.shiftRight_eq_div_pow, Nat.shiftLeft_eq, Nat.mod_eq_of_lt hlt,
    Nat.mul_div_cancel _ (Nat.two_pow_pos n)]

section Walk

variable {s : State} {va : Word} {acc : Access}

theorem State.ttbcrN_eq (s : State) : s.ttbcrN = s.splitWidth := by
  simp [State.ttbcrN, State.splitWidth, slice, BitVec.extractLsb'_toNat]

theorem State.splitWidth_lt (s : State) : s.splitWidth < 8 := Nat.mod_lt _ (by decide)

theorem State.walksTtbr0_iff_lt : s.walksTtbr0 va ↔ va.toNat < 2 ^ (32 - s.splitWidth) := by
  refine ⟨fun h => ?_, .inr⟩
  obtain hzero | hlt := h
  · rw [hzero]
    exact va.isLt
  · exact hlt

theorem State.usesTtbr0_iff : s.usesTtbr0 va = true ↔ s.walksTtbr0 va := by
  have hshift : va >>> (32 - s.splitWidth) = 0 ↔ va.toNat < 2 ^ (32 - s.splitWidth) := by
    rw [← BitVec.toNat_inj, BitVec.toNat_ushiftRight, Nat.shiftRight_eq_div_pow]
    exact Nat.div_eq_zero_iff_lt (Nat.two_pow_pos _)
  simp only [State.usesTtbr0, s.ttbcrN_eq, Bool.or_eq_true, beq_iff_eq, hshift, State.walksTtbr0]

/-- R110: the exact numbers are those of the model's address. -/
theorem State.firstLevelAt.eq_address {l1 : Word} (h : s.firstLevelAt va l1) : l1 = s.firstLevelAddress va := by
  obtain ⟨hlow, hhigh⟩ := h
  apply BitVec.eq_of_toNat_eq
  by_cases hw : s.walksTtbr0 va
  · have hva := State.walksTtbr0_iff_lt.mp hw
    have hn := s.splitWidth_lt
    rw [hlow hw, State.firstLevelAddress, if_pos (State.usesTtbr0_iff.mpr hw), State.ttb0Base, s.ttbcrN_eq,
      shiftLeft_shiftRight_of_lt (by omega) hva, toNat_clearLow_or, toNat_sectionIndex]
    rw [toNat_sectionIndex]
    exact sectionIndex_lt hn hva
  · rw [hhigh hw, State.firstLevelAddress, if_neg (mt State.usesTtbr0_iff.mp hw), State.ttb1Base, toNat_clearLow_or,
      toNat_sectionIndex]
    rw [toNat_sectionIndex]
    exact sectionIndex_lt (n := 0) (by decide) va.isLt

/-- R110, R113: the bit that disables the walk of an address is that of its table. -/
theorem State.walkDisabled_iff :
    (if s.usesTtbr0 va then s.cp15.ttbcr.getLsbD 4 else s.cp15.ttbcr.getLsbD 5) = true ↔
      (s.walksTtbr0 va ∧ s.cp15.ttbcr.getLsbD 4 = true) ∨ (¬ s.walksTtbr0 va ∧ s.cp15.ttbcr.getLsbD 5 = true) := by
  rw [← State.usesTtbr0_iff]
  cases s.usesTtbr0 va <;> simp

/-- R110, R113: with the MMU on, the configurations that are refused, then the walk. -/
theorem State.translate_of_mmu_on (h : s.mmuEnabled = true) :
    s.translate va acc =
      if s.cp15.ttbcr.getLsbD 31 then .halt (.notImplemented .lpae)
      else if s.cp15.sctlr.getLsbD 29 then .halt (.notImplemented .accessFlag)
      else if (if s.usesTtbr0 va then s.cp15.ttbcr.getLsbD 4 else s.cp15.ttbcr.getLsbD 5) then
        .halt (.notImplemented .walkDisable)
      else s.walkFirst va acc (s.physRead (acc.reading .firstLevel va) (s.firstLevelAddress va) .word) := by
  rw [State.translate, h]
  rfl

/-- R110: an access that walks goes on with its first-level descriptor. -/
theorem State.walks.translate {d1 : Word} (h : s.walks acc va d1) : s.translate va acc = s.walkFirst va acc d1 := by
  obtain ⟨hmmu, hlpae, haf, hpd0, hpd1, l1, hl1, rfl⟩ := h
  have hpd : ¬ (if s.usesTtbr0 va then s.cp15.ttbcr.getLsbD 4 else s.cp15.ttbcr.getLsbD 5) = true := by
    rw [State.walkDisabled_iff]
    rintro (⟨hw, h4⟩ | ⟨hw, h5⟩)
    · exact absurd ((hpd0 hw).symm.trans h4) Bool.false_ne_true
    · exact absurd ((hpd1 hw).symm.trans h5) Bool.false_ne_true
  rw [State.translate_of_mmu_on hmmu, if_neg (ne_true_of_eq_false hlpae), if_neg (ne_true_of_eq_false haf), if_neg hpd,
    hl1.eq_address]

/-! ### The configurations that are refused (R113) -/

theorem State.translate_lpae (hmmu : s.mmuEnabled = true) (h : s.cp15.ttbcr.getLsbD 31 = true) :
    s.translate va acc = .halt (.notImplemented .lpae) := by
  rw [State.translate_of_mmu_on hmmu, if_pos h]

theorem State.translate_accessFlag (hmmu : s.mmuEnabled = true) (hlpae : s.cp15.ttbcr.getLsbD 31 = false)
    (h : s.cp15.sctlr.getLsbD 29 = true) : s.translate va acc = .halt (.notImplemented .accessFlag) := by
  rw [State.translate_of_mmu_on hmmu, if_neg (ne_true_of_eq_false hlpae), if_pos h]

theorem State.translate_walkDisable (hmmu : s.mmuEnabled = true) (hlpae : s.cp15.ttbcr.getLsbD 31 = false)
    (haf : s.cp15.sctlr.getLsbD 29 = false)
    (h : (s.walksTtbr0 va ∧ s.cp15.ttbcr.getLsbD 4 = true) ∨ (¬ s.walksTtbr0 va ∧ s.cp15.ttbcr.getLsbD 5 = true)) :
    s.translate va acc = .halt (.notImplemented .walkDisable) := by
  rw [State.translate_of_mmu_on hmmu, if_neg (ne_true_of_eq_false hlpae), if_neg (ne_true_of_eq_false haf),
    if_pos (State.walkDisabled_iff.mpr h)]

/-! ### What a descriptor leads to (R111, R112) -/

variable {d1 d2 : Word}

/-- R112: the address of the second-level descriptor takes bits 19:12 of the virtual one. -/
theorem place_pageIndex (va : Word) : place (slice va 12 8) 2 = ((va >>> 12) &&& 0xFF) <<< 2 := by
  have hslice : (slice va 12 8).setWidth 32 = (va >>> 12) &&& 0xFF := by
    apply BitVec.eq_of_toNat_eq
    have hmask := Nat.and_two_pow_sub_one_eq_mod (va.toNat >>> 12) 8
    simp only [slice, BitVec.toNat_setWidth, BitVec.extractLsb'_toNat, BitVec.toNat_and, BitVec.toNat_ushiftRight]
    exact (Nat.mod_eq_of_lt (by omega)).trans hmask.symm
  rw [place, hslice]

theorem State.walkFirst_fault (h : d1.extractLsb' 0 2 = 0 ∨ d1.extractLsb' 0 2 = 3) :
    s.walkFirst va acc d1 = acc.fault va .translationSection := by
  obtain h | h := h <;> rw [State.walkFirst, slice, h] <;> rfl

theorem State.walkFirst_supersection (h : d1.extractLsb' 0 2 = 2) (h18 : d1.getLsbD 18 = true) :
    s.walkFirst va acc d1 = .halt (.notImplemented .supersection) := by
  rw [State.walkFirst, slice, h]
  exact if_pos h18

theorem State.walkFirst_section (h : d1.extractLsb' 0 2 = 2) (h18 : d1.getLsbD 18 = false) :
    s.walkFirst va acc d1 = s.checkDomain va acc .sect (slice d1 5 4) (d1.getLsbD 15) (d1.extractLsb' 10 2) (d1.getLsbD 4)
      (merge 0x000FFFFF d1 va) := by
  rw [State.walkFirst, slice, h]
  exact if_neg (ne_true_of_eq_false h18)

theorem State.walkFirst_table (h : d1.extractLsb' 0 2 = 1) :
    s.walkFirst va acc d1 = s.walkPage va acc d1 (s.secondLevel acc va d1) := by
  rw [State.walkFirst, slice, h, State.secondLevel, ← place_pageIndex]
  rfl

theorem State.walkPage_fault (h : d2.extractLsb' 0 2 = 0) : s.walkPage va acc d1 d2 = acc.fault va .translationPage := by
  rw [State.walkPage, slice, h]
  rfl

theorem State.walkPage_large (h : d2.extractLsb' 0 2 = 1) :
    s.walkPage va acc d1 d2 = .halt (.notImplemented .largePage) := by
  rw [State.walkPage, slice, h]
  rfl

/-- R112: a descriptor of a small page is one with bit 1 set; its bit 0 is XN. -/
theorem State.walkPage_small (h : d2.getLsbD 1 = true) :
    s.walkPage va acc d1 d2 = s.checkDomain va acc .page (slice d1 5 4) (d2.getLsbD 9) (d2.extractLsb' 4 2) (d2.getLsbD 0)
      (merge 0x00000FFF d2 va) := by
  have h1 : (slice d2 0 2).getLsbD 1 = true := by simpa [slice] using h
  have hkind : slice d2 0 2 = 2 ∨ slice d2 0 2 = 3 := by
    generalize slice d2 0 2 = x at h1
    decide +revert
  obtain hkind | hkind := hkind <;> rw [State.walkPage, hkind] <;> rfl

/-! ### The domain, the permission and the execute check (R115 to R119) -/

variable {level : Level} {ap2 xn : Bool} {ap10 : BitVec 2} {pa : Word}

/-- R67: the two ways to cut a domain's policy out of DACR. -/
theorem State.toNat_policyOf (s : State) (d1 : Word) : (s.policyOf d1).toNat = (s.domainPolicy (slice d1 5 4)).toNat := by
  have hmask := Nat.and_two_pow_sub_one_eq_mod (s.cp15.dacr.toNat >>> (2 * (slice d1 5 4).toNat)) 2
  simp only [State.policyOf, State.domainPolicy, BitVec.toNat_and, BitVec.toNat_ushiftRight, slice,
    BitVec.extractLsb'_toNat] at hmask ⊢
  exact hmask

theorem State.domainPolicy_of_policyOf {p : Word} (h : s.policyOf d1 = p) :
    (s.domainPolicy (slice d1 5 4)).toNat = p.toNat := by
  rw [← s.toNat_policyOf, h]

/-- R116, R117: a manager's access, or a permitted client's, comes to the execute check. -/
theorem State.checkDomain_passed
    (h : s.policyOf d1 = 3 ∨
      (s.policyOf d1 = 1 ∧ permission ap2 ap10 (s.privileged && !acc.unpriv) acc.write = .allowed)) :
    s.checkDomain va acc level (slice d1 5 4) ap2 ap10 xn pa = s.checkExecute va acc level xn pa := by
  obtain hmanager | ⟨hclient, hallowed⟩ := h
  · rw [State.checkDomain, State.domainPolicy_of_policyOf hmanager]
    rfl
  · rw [State.checkDomain, State.domainPolicy_of_policyOf hclient, State.accessPrivileged, hallowed]
    rfl

/-- R116, R119: an access that a descriptor admits reaches the mapped address. -/
theorem State.checkDomain_of_admits (h : s.admits acc d1 ap2 ap10 xn) :
    s.checkDomain va acc level (slice d1 5 4) ap2 ap10 xn pa = .pa pa := by
  obtain ⟨hpass, hexecute⟩ := h
  rw [State.checkDomain_passed hpass, State.checkExecute, hexecute]
  rfl

/-- R115 to R119: the checks end in the first that fails. -/
theorem State.checkDomain_deniedAt :
    s.deniedAt va acc level.domainFault level.permissionFault d1 ap2 ap10 xn
      (s.checkDomain va acc level (slice d1 5 4) ap2 ap10 xn pa) := by
  refine ⟨fun hnone => ?_, fun hreserved => ?_, fun hclient hdenied => ?_, fun hclient hreserved => ?_, fun hpass hxn => ?_⟩
  · rw [State.checkDomain, State.domainPolicy_of_policyOf hnone]
    rfl
  · rw [State.checkDomain, State.domainPolicy_of_policyOf hreserved]
    rfl
  · rw [State.checkDomain, State.domainPolicy_of_policyOf hclient, State.accessPrivileged, hdenied]
    rfl
  · rw [State.checkDomain, State.domainPolicy_of_policyOf hclient, State.accessPrivileged, hreserved]
    rfl
  · rw [State.checkDomain_passed hpass, State.checkExecute, hxn]
    rfl

end Walk

/-- Settles O33: the walk to the descriptor, and the checks that it passes. -/
theorem translationGivesTheMappedAddress : Obligations.TranslationGivesTheMappedAddress := by
  intro s va acc
  refine ⟨fun hmmu => State.translate_of_mmu_off hmmu va acc, fun d1 hwalk => ⟨fun hkind h18 hadmits => ?_, ?_⟩⟩
  · rw [hwalk.translate, State.walkFirst_section hkind h18, State.checkDomain_of_admits hadmits]
    rfl
  · rintro hkind d2 rfl hsmall hadmits
    rw [hwalk.translate, State.walkFirst_table hkind, State.walkPage_small hsmall, State.checkDomain_of_admits hadmits]
    rfl

/-- Settles O34: the refused configurations, and what each descriptor and each check ends a walk in. -/
theorem translationFaultsAndHalts : Obligations.TranslationFaultsAndHalts := by
  intro s va acc
  refine ⟨State.translate_lpae, State.translate_accessFlag, State.translate_walkDisable, fun d1 hwalk => ?_⟩
  rw [hwalk.translate]
  refine ⟨State.walkFirst_fault, State.walkFirst_supersection, fun hkind h18 => ?_, ?_⟩
  · rw [State.walkFirst_section hkind h18]
    exact State.checkDomain_deniedAt (level := .sect)
  · rintro hkind d2 rfl
    rw [State.walkFirst_table hkind]
    refine ⟨State.walkPage_fault, State.walkPage_large, fun hsmall => ?_⟩
    rw [State.walkPage_small hsmall]
    exact State.checkDomain_deniedAt (level := .page)

/-- Settles O35: each row is the entry of `permission` for its AP value, whatever the privilege and the direction. -/
theorem permissionTable : Obligations.PermissionTable :=
  ⟨fun _ _ => rfl, fun _ _ => rfl, fun _ _ => rfl, fun _ _ => rfl, fun _ _ => rfl, fun _ _ => rfl, fun _ _ => rfl,
    fun _ _ => rfl⟩

/-! ### Unprivileged accesses (R114) -/

section Unprivileged

variable {s : State} {va w : Word} {acc : Access}

/-- R114: neither an unprivileged form nor an access in User mode is privileged. -/
theorem State.accessPrivileged_unpriv (hw : psrM w = 0b10000) :
    s.accessPrivileged { acc with unpriv := true } = State.accessPrivileged { s with cpsr := w } acc := by
  have huser : State.privileged { s with cpsr := w } = false := by
    rw [State.privileged, hw]
    rfl
  rw [State.accessPrivileged, State.accessPrivileged, huser, Bool.not_true, Bool.and_false, Bool.false_and]

theorem State.checkDomain_unpriv (hw : psrM w = 0b10000) (level : Level) (d : BitVec 4) (ap2 : Bool) (ap10 : BitVec 2)
    (xn : Bool) (pa : Word) :
    s.checkDomain va { acc with unpriv := true } level d ap2 ap10 xn pa =
      State.checkDomain { s with cpsr := w } va acc level d ap2 ap10 xn pa := by
  rw [State.checkDomain, State.checkDomain, State.accessPrivileged_unpriv hw]
  rfl

theorem State.walkPage_unpriv (hw : psrM w = 0b10000) (d1 d2 : Word) :
    s.walkPage va { acc with unpriv := true } d1 d2 = State.walkPage { s with cpsr := w } va acc d1 d2 := by
  rw [State.walkPage, State.walkPage, State.checkDomain_unpriv hw]
  rfl

theorem State.walkFirst_unpriv (hw : psrM w = 0b10000) (d1 : Word) :
    s.walkFirst va { acc with unpriv := true } d1 = State.walkFirst { s with cpsr := w } va acc d1 := by
  rw [State.walkFirst, State.walkFirst, State.walkPage_unpriv hw, State.checkDomain_unpriv hw]
  rfl

end Unprivileged

/-- Settles O36: the mode matters to a walk only in the privilege of the permission check. -/
theorem unprivilegedAccessesAreCheckedAsUser : Obligations.UnprivilegedAccessesAreCheckedAsUser := by
  intro s va acc w hw
  rw [State.translate, State.translate, State.walkFirst_unpriv hw]
  rfl

end Sys2Proof.Machine
end

section
/-! SUPPORT. The words of the rows: which words the first-match table gives a row, and for each instruction how its fields cover
the bits that its row does not fix (`Instr.hasLayout`). Obligations O1 and O2 (spec/30_encoding.md) are short uses of it. -/

namespace Sys2Proof

open Machine

/-! ### Fields that cover the free bits of a row -/

/-- R7: a bit of a word, put back in its place, is that word under the mask of the bit. -/
theorem placeBit_bit (w : Word) (i : Nat) : placeBit (bit w i) i = w &&& maskOf i 1 := by
  have hbit : BitVec.ofBool (bit w i) = slice w i 1 := by
    ext j hj
    simp [bit, slice, Nat.lt_one_iff.mp hj]
  rw [placeBit, hbit, place_slice]

/-- R180: cutting an operand layout out of a word and putting it back are inverse to each other on the bits of `free`, and
touch no other bit. -/
structure FieldLayout {α : Type} (ofWord : Word → α) (toWord : Word → α → Word) (free : Word) : Prop where
  ofWord_toWord : ∀ base, base &&& free = 0 → ∀ o, ofWord (toWord base o) = o
  toWord_ofWord : ∀ base w, toWord base (ofWord w) = base ||| (w &&& free)

theorem CpsOp.layout : FieldLayout CpsOp.ofWord CpsOp.toWord 0x000EFFDF :=
  ⟨CpsOp.ofWord_toWord, fun base w => by
    simp only [CpsOp.ofWord, CpsOp.toWord, place_slice, placeBit_bit, BitVec.or_assoc, ← BitVec.and_or_distrib_left]
    rfl⟩

theorem SetendOp.layout : FieldLayout SetendOp.ofWord SetendOp.toWord 0x0000FF0F :=
  ⟨SetendOp.ofWord_toWord, fun base w => by
    simp only [SetendOp.ofWord, SetendOp.toWord, place_slice, placeBit_bit, BitVec.or_assoc, ← BitVec.and_or_distrib_left]
    rfl⟩

theorem PreloadImm.layout : FieldLayout PreloadImm.ofWord PreloadImm.toWord 0x008FFFFF :=
  ⟨PreloadImm.ofWord_toWord, fun base w => by
    simp only [PreloadImm.ofWord, PreloadImm.toWord, place_slice, placeBit_bit, BitVec.or_assoc, ← BitVec.and_or_distrib_left]
    rfl⟩

theorem PreloadReg.layout : FieldLayout PreloadReg.ofWord PreloadReg.toWord 0x008FFFEF :=
  ⟨PreloadReg.ofWord_toWord, fun base w => by
    simp only [PreloadReg.ofWord, PreloadReg.toWord, place_slice, placeBit_bit, BitVec.or_assoc, ← BitVec.and_or_distrib_left]
    rfl⟩

theorem ClrexOp.layout : FieldLayout ClrexOp.ofWord ClrexOp.toWord 0x000FFF0F :=
  ⟨ClrexOp.ofWord_toWord, fun base w => by
    simp only [ClrexOp.ofWord, ClrexOp.toWord, place_slice, BitVec.or_assoc, ← BitVec.and_or_distrib_left]
    rfl⟩

theorem BarrierOp.layout : FieldLayout BarrierOp.ofWord BarrierOp.toWord 0x000FFF0F :=
  ⟨BarrierOp.ofWord_toWord, fun base w => by
    simp only [BarrierOp.ofWord, BarrierOp.toWord, place_slice, BitVec.or_assoc, ← BitVec.and_or_distrib_left]
    rfl⟩

theorem BlxImmOp.layout : FieldLayout BlxImmOp.ofWord BlxImmOp.toWord 0x01FFFFFF :=
  ⟨BlxImmOp.ofWord_toWord, fun base w => by
    simp only [BlxImmOp.ofWord, BlxImmOp.toWord, place_slice, placeBit_bit, BitVec.or_assoc, ← BitVec.and_or_distrib_left]
    rfl⟩

theorem Mcrr2Op.layout : FieldLayout Mcrr2Op.ofWord Mcrr2Op.toWord 0x001FFFFF :=
  ⟨Mcrr2Op.ofWord_toWord, fun base w => by
    simp only [Mcrr2Op.ofWord, Mcrr2Op.toWord, place_slice, placeBit_bit, BitVec.or_assoc, ← BitVec.and_or_distrib_left]
    rfl⟩

theorem Stc2Op.layout : FieldLayout Stc2Op.ofWord Stc2Op.toWord 0x01FFFFFF :=
  ⟨Stc2Op.ofWord_toWord, fun base w => by
    simp only [Stc2Op.ofWord, Stc2Op.toWord, place_slice, placeBit_bit, BitVec.or_assoc, ← BitVec.and_or_distrib_left]
    rfl⟩

theorem Cdp2Op.layout : FieldLayout Cdp2Op.ofWord Cdp2Op.toWord 0x00FFFFEF :=
  ⟨Cdp2Op.ofWord_toWord, fun base w => by
    simp only [Cdp2Op.ofWord, Cdp2Op.toWord, place_slice, BitVec.or_assoc, ← BitVec.and_or_distrib_left]
    rfl⟩

theorem Mcr2Op.layout : FieldLayout Mcr2Op.ofWord Mcr2Op.toWord 0x00FFFFEF :=
  ⟨Mcr2Op.ofWord_toWord, fun base w => by
    simp only [Mcr2Op.ofWord, Mcr2Op.toWord, place_slice, placeBit_bit, BitVec.or_assoc, ← BitVec.and_or_distrib_left]
    rfl⟩

theorem MrsOp.layout : FieldLayout MrsOp.ofWord MrsOp.toWord 0xF04FFD0F :=
  ⟨MrsOp.ofWord_toWord, fun base w => by
    simp only [MrsOp.ofWord, MrsOp.toWord, place_slice, placeBit_bit, BitVec.or_assoc, ← BitVec.and_or_distrib_left]
    rfl⟩

theorem MsrRegOp.layout : FieldLayout MsrRegOp.ofWord MsrRegOp.toWord 0xF04FFD0F :=
  ⟨MsrRegOp.ofWord_toWord, fun base w => by
    simp only [MsrRegOp.ofWord, MsrRegOp.toWord, place_slice, placeBit_bit, BitVec.or_assoc, ← BitVec.and_or_distrib_left]
    rfl⟩

theorem BxOp.layout : FieldLayout BxOp.ofWord BxOp.toWord 0xF00FFF0F :=
  ⟨BxOp.ofWord_toWord, fun base w => by
    simp only [BxOp.ofWord, BxOp.toWord, place_slice, BitVec.or_assoc, ← BitVec.and_or_distrib_left]
    rfl⟩

theorem UnaryOp.layout : FieldLayout UnaryOp.ofWord UnaryOp.toWord 0xF00FFF0F :=
  ⟨UnaryOp.ofWord_toWord, fun base w => by
    simp only [UnaryOp.ofWord, UnaryOp.toWord, place_slice, BitVec.or_assoc, ← BitVec.and_or_distrib_left]
    rfl⟩

theorem QaddOp.layout : FieldLayout QaddOp.ofWord QaddOp.toWord 0xF06FFF0F :=
  ⟨QaddOp.ofWord_toWord, fun base w => by
    simp only [QaddOp.ofWord, QaddOp.toWord, place_slice, BitVec.or_assoc, ← BitVec.and_or_distrib_left]
    rfl⟩

theorem TrapOp.layout : FieldLayout TrapOp.ofWord TrapOp.toWord 0xF00FFF0F :=
  ⟨TrapOp.ofWord_toWord, fun base w => by
    simp only [TrapOp.ofWord, TrapOp.toWord, place_slice, BitVec.or_assoc, ← BitVec.and_or_distrib_left]
    rfl⟩

theorem SmcOp.layout : FieldLayout SmcOp.ofWord SmcOp.toWord 0xF00FFF0F :=
  ⟨SmcOp.ofWord_toWord, fun base w => by
    simp only [SmcOp.ofWord, SmcOp.toWord, place_slice, BitVec.or_assoc, ← BitVec.and_or_distrib_left]
    rfl⟩

theorem MulOp.layout : FieldLayout MulOp.ofWord MulOp.toWord 0xF01FFF0F :=
  ⟨MulOp.ofWord_toWord, fun base w => by
    simp only [MulOp.ofWord, MulOp.toWord, place_slice, placeBit_bit, BitVec.or_assoc, ← BitVec.and_or_distrib_left]
    rfl⟩

theorem MlaOp.layout : FieldLayout MlaOp.ofWord MlaOp.toWord 0xF01FFF0F :=
  ⟨MlaOp.ofWord_toWord, fun base w => by
    simp only [MlaOp.ofWord, MlaOp.toWord, place_slice, placeBit_bit, BitVec.or_assoc, ← BitVec.and_or_distrib_left]
    rfl⟩

theorem MlsOp.layout : FieldLayout MlsOp.ofWord MlsOp.toWord 0xF00FFF0F :=
  ⟨MlsOp.ofWord_toWord, fun base w => by
    simp only [MlsOp.ofWord, MlsOp.toWord, place_slice, BitVec.or_assoc, ← BitVec.and_or_distrib_left]
    rfl⟩

theorem MulLongOp.layout : FieldLayout MulLongOp.ofWord MulLongOp.toWord 0xF01FFF0F :=
  ⟨MulLongOp.ofWord_toWord, fun base w => by
    simp only [MulLongOp.ofWord, MulLongOp.toWord, place_slice, placeBit_bit, BitVec.or_assoc, ← BitVec.and_or_distrib_left]
    rfl⟩

theorem SwpOp.layout : FieldLayout SwpOp.ofWord SwpOp.toWord 0xF04FFF0F :=
  ⟨SwpOp.ofWord_toWord, fun base w => by
    simp only [SwpOp.ofWord, SwpOp.toWord, place_slice, placeBit_bit, BitVec.or_assoc, ← BitVec.and_or_distrib_left]
    rfl⟩

theorem StrexOp.layout : FieldLayout StrexOp.ofWord StrexOp.toWord 0xF00FFF0F :=
  ⟨StrexOp.ofWord_toWord, fun base w => by
    simp only [StrexOp.ofWord, StrexOp.toWord, place_slice, BitVec.or_assoc, ← BitVec.and_or_distrib_left]
    rfl⟩

theorem LdrexOp.layout : FieldLayout LdrexOp.ofWord LdrexOp.toWord 0xF00FFF0F :=
  ⟨LdrexOp.ofWord_toWord, fun base w => by
    simp only [LdrexOp.ofWord, LdrexOp.toWord, place_slice, BitVec.or_assoc, ← BitVec.and_or_distrib_left]
    rfl⟩

theorem ExtraImm.layout : FieldLayout ExtraImm.ofWord ExtraImm.toWord 0xF1AFFF0F :=
  ⟨ExtraImm.ofWord_toWord, fun base w => by
    simp only [ExtraImm.ofWord, ExtraImm.toWord, place_slice, placeBit_bit, BitVec.or_assoc, ← BitVec.and_or_distrib_left]
    rfl⟩

theorem ExtraReg.layout : FieldLayout ExtraReg.ofWord ExtraReg.toWord 0xF1AFFF0F :=
  ⟨ExtraReg.ofWord_toWord, fun base w => by
    simp only [ExtraReg.ofWord, ExtraReg.toWord, place_slice, placeBit_bit, BitVec.or_assoc, ← BitVec.and_or_distrib_left]
    rfl⟩

theorem ExtraTImm.layout : FieldLayout ExtraTImm.ofWord ExtraTImm.toWord 0xF08FFF0F :=
  ⟨ExtraTImm.ofWord_toWord, fun base w => by
    simp only [ExtraTImm.ofWord, ExtraTImm.toWord, place_slice, placeBit_bit, BitVec.or_assoc, ← BitVec.and_or_distrib_left]
    rfl⟩

theorem ExtraTReg.layout : FieldLayout ExtraTReg.ofWord ExtraTReg.toWord 0xF08FFF0F :=
  ⟨ExtraTReg.ofWord_toWord, fun base w => by
    simp only [ExtraTReg.ofWord, ExtraTReg.toWord, place_slice, placeBit_bit, BitVec.or_assoc, ← BitVec.and_or_distrib_left]
    rfl⟩

theorem MovwOp.layout : FieldLayout MovwOp.ofWord MovwOp.toWord 0xF00FFFFF :=
  ⟨MovwOp.ofWord_toWord, fun base w => by
    simp only [MovwOp.ofWord, MovwOp.toWord, place_slice, BitVec.or_assoc, ← BitVec.and_or_distrib_left]
    rfl⟩

theorem HintOp.layout : FieldLayout HintOp.ofWord HintOp.toWord 0xF000FF00 :=
  ⟨HintOp.ofWord_toWord, fun base w => by
    simp only [HintOp.ofWord, HintOp.toWord, place_slice, BitVec.or_assoc, ← BitVec.and_or_distrib_left]
    rfl⟩

theorem DbgOp.layout : FieldLayout DbgOp.ofWord DbgOp.toWord 0xF000FF0F :=
  ⟨DbgOp.ofWord_toWord, fun base w => by
    simp only [DbgOp.ofWord, DbgOp.toWord, place_slice, BitVec.or_assoc, ← BitVec.and_or_distrib_left]
    rfl⟩

theorem HintUnallocOp.layout : FieldLayout HintUnallocOp.ofWord HintUnallocOp.toWord 0xF000FFFF :=
  ⟨HintUnallocOp.ofWord_toWord, fun base w => by
    simp only [HintUnallocOp.ofWord, HintUnallocOp.toWord, place_slice, BitVec.or_assoc, ← BitVec.and_or_distrib_left]
    rfl⟩

theorem MsrImmOp.layout : FieldLayout MsrImmOp.ofWord MsrImmOp.toWord 0xF04FFFFF :=
  ⟨MsrImmOp.ofWord_toWord, fun base w => by
    simp only [MsrImmOp.ofWord, MsrImmOp.toWord, place_slice, placeBit_bit, BitVec.or_assoc, ← BitVec.and_or_distrib_left]
    rfl⟩

theorem DpImm.layout : FieldLayout DpImm.ofWord DpImm.toWord 0xF01FFFFF :=
  ⟨DpImm.ofWord_toWord, fun base w => by
    simp only [DpImm.ofWord, DpImm.toWord, place_slice, placeBit_bit, BitVec.or_assoc, ← BitVec.and_or_distrib_left]
    rfl⟩

theorem DpReg.layout : FieldLayout DpReg.ofWord DpReg.toWord 0xF01FFFEF :=
  ⟨DpReg.ofWord_toWord, fun base w => by
    simp only [DpReg.ofWord, DpReg.toWord, place_slice, placeBit_bit, BitVec.or_assoc, ← BitVec.and_or_distrib_left]
    rfl⟩

theorem DpRsr.layout : FieldLayout DpRsr.ofWord DpRsr.toWord 0xF01FFF6F :=
  ⟨DpRsr.ofWord_toWord, fun base w => by
    simp only [DpRsr.ofWord, DpRsr.toWord, place_slice, placeBit_bit, BitVec.or_assoc, ← BitVec.and_or_distrib_left]
    rfl⟩

theorem CmpImm.layout : FieldLayout CmpImm.ofWord CmpImm.toWord 0xF00FFFFF :=
  ⟨CmpImm.ofWord_toWord, fun base w => by
    simp only [CmpImm.ofWord, CmpImm.toWord, place_slice, BitVec.or_assoc, ← BitVec.and_or_distrib_left]
    rfl⟩

theorem CmpReg.layout : FieldLayout CmpReg.ofWord CmpReg.toWord 0xF00FFFEF :=
  ⟨CmpReg.ofWord_toWord, fun base w => by
    simp only [CmpReg.ofWord, CmpReg.toWord, place_slice, BitVec.or_assoc, ← BitVec.and_or_distrib_left]
    rfl⟩

theorem CmpRsr.layout : FieldLayout CmpRsr.ofWord CmpRsr.toWord 0xF00FFF6F :=
  ⟨CmpRsr.ofWord_toWord, fun base w => by
    simp only [CmpRsr.ofWord, CmpRsr.toWord, place_slice, BitVec.or_assoc, ← BitVec.and_or_distrib_left]
    rfl⟩

theorem MovImm.layout : FieldLayout MovImm.ofWord MovImm.toWord 0xF01FFFFF :=
  ⟨MovImm.ofWord_toWord, fun base w => by
    simp only [MovImm.ofWord, MovImm.toWord, place_slice, placeBit_bit, BitVec.or_assoc, ← BitVec.and_or_distrib_left]
    rfl⟩

theorem MovReg.layout : FieldLayout MovReg.ofWord MovReg.toWord 0xF01FF00F :=
  ⟨MovReg.ofWord_toWord, fun base w => by
    simp only [MovReg.ofWord, MovReg.toWord, place_slice, placeBit_bit, BitVec.or_assoc, ← BitVec.and_or_distrib_left]
    rfl⟩

theorem ShiftImm.layout : FieldLayout ShiftImm.ofWord ShiftImm.toWord 0xF01FFF8F :=
  ⟨ShiftImm.ofWord_toWord, fun base w => by
    simp only [ShiftImm.ofWord, ShiftImm.toWord, place_slice, placeBit_bit, BitVec.or_assoc, ← BitVec.and_or_distrib_left]
    rfl⟩

theorem ShiftReg.layout : FieldLayout ShiftReg.ofWord ShiftReg.toWord 0xF01FFF0F :=
  ⟨ShiftReg.ofWord_toWord, fun base w => by
    simp only [ShiftReg.ofWord, ShiftReg.toWord, place_slice, placeBit_bit, BitVec.or_assoc, ← BitVec.and_or_distrib_left]
    rfl⟩

theorem MvnReg.layout : FieldLayout MvnReg.ofWord MvnReg.toWord 0xF01FFFEF :=
  ⟨MvnReg.ofWord_toWord, fun base w => by
    simp only [MvnReg.ofWord, MvnReg.toWord, place_slice, placeBit_bit, BitVec.or_assoc, ← BitVec.and_or_distrib_left]
    rfl⟩

theorem MvnRsr.layout : FieldLayout MvnRsr.ofWord MvnRsr.toWord 0xF01FFF6F :=
  ⟨MvnRsr.ofWord_toWord, fun base w => by
    simp only [MvnRsr.ofWord, MvnRsr.toWord, place_slice, placeBit_bit, BitVec.or_assoc, ← BitVec.and_or_distrib_left]
    rfl⟩

theorem LsImm.layout : FieldLayout LsImm.ofWord LsImm.toWord 0xF1AFFFFF :=
  ⟨LsImm.ofWord_toWord, fun base w => by
    simp only [LsImm.ofWord, LsImm.toWord, place_slice, placeBit_bit, BitVec.or_assoc, ← BitVec.and_or_distrib_left]
    rfl⟩

theorem LsReg.layout : FieldLayout LsReg.ofWord LsReg.toWord 0xF1AFFFEF :=
  ⟨LsReg.ofWord_toWord, fun base w => by
    simp only [LsReg.ofWord, LsReg.toWord, place_slice, placeBit_bit, BitVec.or_assoc, ← BitVec.and_or_distrib_left]
    rfl⟩

theorem LsTImm.layout : FieldLayout LsTImm.ofWord LsTImm.toWord 0xF08FFFFF :=
  ⟨LsTImm.ofWord_toWord, fun base w => by
    simp only [LsTImm.ofWord, LsTImm.toWord, place_slice, placeBit_bit, BitVec.or_assoc, ← BitVec.and_or_distrib_left]
    rfl⟩

theorem LsTReg.layout : FieldLayout LsTReg.ofWord LsTReg.toWord 0xF08FFFEF :=
  ⟨LsTReg.ofWord_toWord, fun base w => by
    simp only [LsTReg.ofWord, LsTReg.toWord, place_slice, placeBit_bit, BitVec.or_assoc, ← BitVec.and_or_distrib_left]
    rfl⟩

theorem ExtendOp.layout : FieldLayout ExtendOp.ofWord ExtendOp.toWord 0xF000FF0F :=
  ⟨ExtendOp.ofWord_toWord, fun base w => by
    simp only [ExtendOp.ofWord, ExtendOp.toWord, place_slice, BitVec.or_assoc, ← BitVec.and_or_distrib_left]
    rfl⟩

theorem ExtendAddOp.layout : FieldLayout ExtendAddOp.ofWord ExtendAddOp.toWord 0xF00FFF0F :=
  ⟨ExtendAddOp.ofWord_toWord, fun base w => by
    simp only [ExtendAddOp.ofWord, ExtendAddOp.toWord, place_slice, BitVec.or_assoc, ← BitVec.and_or_distrib_left]
    rfl⟩

theorem BfxOp.layout : FieldLayout BfxOp.ofWord BfxOp.toWord 0xF01FFF8F :=
  ⟨BfxOp.ofWord_toWord, fun base w => by
    simp only [BfxOp.ofWord, BfxOp.toWord, place_slice, BitVec.or_assoc, ← BitVec.and_or_distrib_left]
    rfl⟩

theorem BfcOp.layout : FieldLayout BfcOp.ofWord BfcOp.toWord 0xF01FFF80 :=
  ⟨BfcOp.ofWord_toWord, fun base w => by
    simp only [BfcOp.ofWord, BfcOp.toWord, place_slice, BitVec.or_assoc, ← BitVec.and_or_distrib_left]
    rfl⟩

theorem BfiOp.layout : FieldLayout BfiOp.ofWord BfiOp.toWord 0xF01FFF8F :=
  ⟨BfiOp.ofWord_toWord, fun base w => by
    simp only [BfiOp.ofWord, BfiOp.toWord, place_slice, BitVec.or_assoc, ← BitVec.and_or_distrib_left]
    rfl⟩

theorem LdmExcOp.layout : FieldLayout LdmExcOp.ofWord LdmExcOp.toWord 0xF1AF7FFF :=
  ⟨LdmExcOp.ofWord_toWord, fun base w => by
    simp only [LdmExcOp.ofWord, LdmExcOp.toWord, place_slice, placeBit_bit, BitVec.or_assoc, ← BitVec.and_or_distrib_left]
    rfl⟩

theorem LdmUserOp.layout : FieldLayout LdmUserOp.ofWord LdmUserOp.toWord 0xF1AF7FFF :=
  ⟨LdmUserOp.ofWord_toWord, fun base w => by
    simp only [LdmUserOp.ofWord, LdmUserOp.toWord, place_slice, placeBit_bit, BitVec.or_assoc, ← BitVec.and_or_distrib_left]
    rfl⟩

theorem StmUserOp.layout : FieldLayout StmUserOp.ofWord StmUserOp.toWord 0xF1AFFFFF :=
  ⟨StmUserOp.ofWord_toWord, fun base w => by
    simp only [StmUserOp.ofWord, StmUserOp.toWord, place_slice, placeBit_bit, BitVec.or_assoc, ← BitVec.and_or_distrib_left]
    rfl⟩

theorem BlockOp.layout : FieldLayout BlockOp.ofWord BlockOp.toWord 0xF02FFFFF :=
  ⟨BlockOp.ofWord_toWord, fun base w => by
    simp only [BlockOp.ofWord, BlockOp.toWord, place_slice, placeBit_bit, BitVec.or_assoc, ← BitVec.and_or_distrib_left]
    rfl⟩

theorem BranchOp.layout : FieldLayout BranchOp.ofWord BranchOp.toWord 0xF0FFFFFF :=
  ⟨BranchOp.ofWord_toWord, fun base w => by
    simp only [BranchOp.ofWord, BranchOp.toWord, place_slice, BitVec.or_assoc, ← BitVec.and_or_distrib_left]
    rfl⟩

theorem Cp15Op.layout : FieldLayout Cp15Op.ofWord Cp15Op.toWord 0xF0EFF0EF :=
  ⟨Cp15Op.ofWord_toWord, fun base w => by
    simp only [Cp15Op.ofWord, Cp15Op.toWord, place_slice, BitVec.or_assoc, ← BitVec.and_or_distrib_left]
    rfl⟩

theorem McrrOp.layout : FieldLayout McrrOp.ofWord McrrOp.toWord 0xF01FFFFF :=
  ⟨McrrOp.ofWord_toWord, fun base w => by
    simp only [McrrOp.ofWord, McrrOp.toWord, place_slice, placeBit_bit, BitVec.or_assoc, ← BitVec.and_or_distrib_left]
    rfl⟩

theorem StcOp.layout : FieldLayout StcOp.ofWord StcOp.toWord 0xF1FFFFFF :=
  ⟨StcOp.ofWord_toWord, fun base w => by
    simp only [StcOp.ofWord, StcOp.toWord, place_slice, placeBit_bit, BitVec.or_assoc, ← BitVec.and_or_distrib_left]
    rfl⟩

theorem CdpOp.layout : FieldLayout CdpOp.ofWord CdpOp.toWord 0xF0FFFFEF :=
  ⟨CdpOp.ofWord_toWord, fun base w => by
    simp only [CdpOp.ofWord, CdpOp.toWord, place_slice, BitVec.or_assoc, ← BitVec.and_or_distrib_left]
    rfl⟩

theorem McrOtherOp.layout : FieldLayout McrOtherOp.ofWord McrOtherOp.toWord 0xF0FFFFEF :=
  ⟨McrOtherOp.ofWord_toWord, fun base w => by
    simp only [McrOtherOp.ofWord, McrOtherOp.toWord, place_slice, placeBit_bit, BitVec.or_assoc, ← BitVec.and_or_distrib_left]
    rfl⟩

/-! ### Patterns of fixed bits -/

namespace Machine

/-- The pattern of the words that hold `v` in the field at `lo`. -/
def fieldIs {n : Nat} (lo : Nat) (v : BitVec n) : Pattern := ⟨maskOf lo n, place v lo⟩

/-- The pattern that asks for the fixed bits of both patterns. -/
def Pattern.both (p q : Pattern) : Pattern := ⟨p.mask ||| q.mask, p.value ||| q.value⟩

/-- The fixed bits of `q` are among those of `p`. -/
def Pattern.implies (p q : Pattern) : Bool := p.mask &&& q.mask == q.mask && p.value &&& q.mask == q.value

/-- Some bit that both patterns fix has different values in them. -/
def Pattern.conflicts (p q : Pattern) : Bool := p.value &&& q.mask != q.value &&& p.mask

theorem Pattern.hits_iff (p : Pattern) (w : Word) : p.hits w = true ↔ w &&& p.mask = p.value := beq_iff_eq

/-- R7: a word matches the pattern of a field exactly if it holds the field's value. -/
theorem fieldIs_hits {n : Nat} (lo : Nat) (v : BitVec n) (w : Word) (h : lo + n ≤ 32) :
    (fieldIs lo v).hits w = (slice w lo n == v) := by
  rw [Bool.eq_iff_iff, Pattern.hits_iff, beq_iff_eq, fieldIs, ← place_slice]
  constructor
  · intro hplace
    rw [← slice_place_same (slice w lo n) lo h, hplace, slice_place_same v lo h]
  · rintro rfl
    rfl

theorem Pattern.both_hits {p q : Pattern} {w : Word} (hp : p.hits w = true) (hq : q.hits w = true) :
    (p.both q).hits w = true := by
  rw [Pattern.hits_iff] at *
  rw [Pattern.both, BitVec.and_or_distrib_left, hp, hq]

theorem Pattern.hits_of_implies {p q : Pattern} {w : Word} (h : p.implies q = true) (hp : p.hits w = true) :
    q.hits w = true := by
  obtain ⟨hmask, hvalue⟩ : p.mask &&& q.mask = q.mask ∧ p.value &&& q.mask = q.value := by
    simpa [Pattern.implies] using h
  rw [Pattern.hits_iff] at *
  rw [← hmask, ← BitVec.and_assoc, hp, hvalue]

theorem Pattern.not_hits_of_conflicts {p q : Pattern} {w : Word} (h : p.conflicts q = true) (hq : q.hits w = true) :
    p.hits w = false := by
  rw [Pattern.hits_iff] at hq
  rw [Bool.eq_false_iff, ne_eq, Pattern.hits_iff]
  intro hp
  refine (bne_iff_ne.mp h) ?_
  rw [← hp, ← hq, BitVec.and_assoc, BitVec.and_assoc, BitVec.and_comm p.mask]

/-- Two fields of different bits are asked for one by one. -/
theorem Pattern.both_hits_eq {p q : Pattern} (hp : (p.both q).implies p = true) (hq : (p.both q).implies q = true) (w : Word) :
    (p.both q).hits w = (p.hits w && q.hits w) := by
  rw [Bool.eq_iff_iff, Bool.and_eq_true]
  exact ⟨fun h => ⟨hits_of_implies hp h, hits_of_implies hq h⟩, fun h => both_hits h.1 h.2⟩

/-! ### The first row that matches -/

/-- The row at a position of the table. -/
def rowPattern (k : Nat) : Pattern := patterns.getD k ⟨0, 0⟩

theorem firstRow_eq_iff (w : Word) : ∀ {ps : List Pattern} {k : Nat}, k < ps.length →
    (firstRow w ps = k ↔ (ps.getD k ⟨0, 0⟩).hits w = true ∧ ∀ p ∈ ps.take k, p.hits w = false)
  | [], k, hk => absurd hk (Nat.not_lt_zero k)
  | p :: ps, 0, _ => by simp [firstRow]
  | p :: ps, k + 1, hk => by
    have ih := firstRow_eq_iff w (Nat.lt_of_succ_lt_succ hk)
    cases hp : p.hits w with
    | true => simp [firstRow, hp]
    | false => simpa [firstRow, hp] using ih

/-- R161: the row of a word is the one that matches it while no earlier one does. -/
theorem rowIndex_eq_iff (w : Word) {k : Nat} (hk : k < 220) :
    rowIndex w = k ↔ (rowPattern k).hits w = true ∧ ∀ p ∈ patterns.take k, p.hits w = false :=
  firstRow_eq_iff w (Laws.patterns_length ▸ hk)

theorem firstRow_lt_of_mem {w : Word} {p : Pattern} (hp : p.hits w = true) :
    ∀ {ps : List Pattern}, p ∈ ps → firstRow w ps < ps.length
  | q :: ps, hmem => by
    cases hq : q.hits w with
    | true => simp [firstRow, hq]
    | false =>
      have hrest : p ∈ ps := (List.mem_cons.mp hmem).resolve_left fun heq => by simp [heq, hq] at hp
      simpa [firstRow, hq] using firstRow_lt_of_mem hp hrest

/-- R161: every word has a row: the last one matches every word. -/
theorem rowIndex_lt (w : Word) : rowIndex w < 220 := by
  have hlast : (⟨0, 0⟩ : Pattern) ∈ patterns := by decide +kernel
  exact Laws.patterns_length ▸ firstRow_lt_of_mem (beq_iff_eq.mpr BitVec.and_zero) hlast

/-! ### What the earlier rows take from a row -/

/-- Every word of row `k` that matches `t` matches an earlier row, seen by the value of one bit `i`. -/
def goesEarlier (k : Nat) (t : Pattern) : Bool :=
  (List.range 32).any fun i => [(0 : BitVec 1), 1].all fun b =>
    (patterns.take k).any fun p => ((rowPattern k).both (t.both (fieldIs i b))).implies p

/-- Of the words that match row `k`, the earlier rows take exactly those that match some pattern of `taken`: each earlier row
conflicts with row `k` or asks for a pattern of `taken`, and each pattern of `taken` goes earlier. -/
def earlierRowsTake (k : Nat) (taken : List Pattern) : Bool :=
  ((patterns.take k).all fun p => p.conflicts (rowPattern k) || taken.any fun t => p.implies t) && taken.all (goesEarlier k)

theorem exists_hits_of_goesEarlier {k : Nat} {t : Pattern} {w : Word} (h : goesEarlier k t = true)
    (hk : (rowPattern k).hits w = true) (ht : t.hits w = true) : ∃ p ∈ patterns.take k, p.hits w = true := by
  obtain ⟨i, hi, hhalves⟩ := List.any_eq_true.mp h
  have hbit : ∀ b : BitVec 1, b ∈ [(0 : BitVec 1), 1] := by decide
  have hfield : (fieldIs i (slice w i 1)).hits w = true := by
    rw [fieldIs_hits _ _ _ (List.mem_range.mp hi), beq_self_eq_true]
  obtain ⟨p, hp, himp⟩ := List.any_eq_true.mp (List.all_eq_true.mp hhalves (slice w i 1) (hbit _))
  exact ⟨p, hp, Pattern.hits_of_implies himp (Pattern.both_hits hk (Pattern.both_hits ht hfield))⟩

/-- No pattern of the list matches the word. -/
def noneHits (ts : List Pattern) (w : Word) : Bool := ts.all fun t => !t.hits w

theorem no_earlier_hits_iff {k : Nat} {taken : List Pattern} {w : Word} (htaken : earlierRowsTake k taken = true)
    (hk : (rowPattern k).hits w = true) :
    (∀ p ∈ patterns.take k, p.hits w = false) ↔ noneHits taken w = true := by
  obtain ⟨hcover, hgone⟩ := Bool.and_eq_true_iff.mp htaken
  rw [noneHits, List.all_eq_true]
  rw [List.all_eq_true] at hcover hgone
  constructor
  · intro hnone t ht
    rw [Bool.not_eq_true', Bool.eq_false_iff]
    intro hhit
    obtain ⟨p, hp, hearlier⟩ := exists_hits_of_goesEarlier (hgone t ht) hk hhit
    simp [hnone p hp] at hearlier
  · intro hfree p hp
    rcases Bool.or_eq_true_iff.mp (hcover p hp) with hconf | htake
    · exact Pattern.not_hits_of_conflicts hconf hk
    · obtain ⟨t, ht, himp⟩ := List.any_eq_true.mp htake
      rw [Bool.eq_false_iff]
      intro hhit
      have hfree' := hfree t ht
      simp [Pattern.hits_of_implies himp hhit] at hfree'

end Machine

/-! ### Well-formedness as patterns that do not match

The patterns whose words earlier rows take from the rows of instructions with fields, and the tests of `Instr.wf` in their
terms. -/

/-- R162: the words of the unconditional space. -/
def uncond : Pattern := fieldIs 28 condUnconditional

/-- R169, R173: the words with P = 0 and W = 1. -/
def postWback : Pattern := (fieldIs 24 (0 : BitVec 1)).both (fieldIs 21 (1 : BitVec 1))

/-- R178: the words with coprocessor number 10 or 11. -/
def vfpNumber : Pattern := fieldIs 9 (5 : BitVec 3)

/-- R178: the words with coprocessor number 15. -/
def cp15Number : Pattern := fieldIs 8 (15 : BitVec 4)

/-- R175, R178: the words with P = U = W = 0, which are no STC or LDC. -/
def noTransfer : Pattern := (fieldIs 23 (0 : BitVec 2)).both (fieldIs 21 (0 : BitVec 1))

/-- R174, R176: the words with 1111 in bits 19 to 16. -/
def basePc : Pattern := fieldIs 16 pcReg

/-- R174: the words with 1111 in bits 3 to 0. -/
def lowPc : Pattern := fieldIs 0 pcReg

/-- R172: the words with the mask 0. -/
def noMask : Pattern := fieldIs 16 (0 : BitVec 4)

/-- R164: the words with the shift amount 0. -/
def noShift : Pattern := fieldIs 7 (0 : BitVec 5)

/-- R172: the words of NOP, YIELD, WFE, WFI and SEV. -/
def namedHints : List Pattern := [(0 : BitVec 8), 1, 2, 3, 4].map (fieldIs 0)

/-- R172: the words of DBG. -/
def dbgHint : Pattern := fieldIs 4 (15 : BitVec 4)

theorem and_noneHits {a b : Bool} {ts us : List Pattern} {w : Word} (ha : a = noneHits ts w) (hb : b = noneHits us w) :
    (a && b) = noneHits (ts ++ us) w := by
  rw [ha, hb, noneHits, noneHits, noneHits, List.all_append]

theorem noneHits_nil (w : Word) : true = noneHits [] w := rfl

theorem slice_slice (w : Word) {lo n lo' m : Nat} (h : lo' + m ≤ n) :
    slice w (lo + lo') m = (slice w lo n).extractLsb' lo' m := by
  ext j hj
  have hin : lo' + j < n := by omega
  simp [slice, hin, Nat.add_assoc]

theorem bit_eq_slice (w : Word) {lo n i : Nat} (h : i < n) : bit w (lo + i) = (slice w lo n).getLsbD i := by
  simp [bit, slice, h]

theorem slice_bne {n : Nat} (w : Word) (lo : Nat) (v : BitVec n) (h : lo + n ≤ 32) :
    (slice w lo n != v) = noneHits [fieldIs lo v] w := by
  simp [noneHits, fieldIs_hits _ _ _ h, bne]

/-- Two fields that do not both hold the values that a pattern asks for. -/
theorem both_beq {n m : Nat} (w : Word) {lo lo' : Nat} {v : BitVec n} {u : BitVec m} (h : lo + n ≤ 32) (h' : lo' + m ≤ 32)
    (hv : ((fieldIs lo v).both (fieldIs lo' u)).implies (fieldIs lo v) = true)
    (hu : ((fieldIs lo v).both (fieldIs lo' u)).implies (fieldIs lo' u) = true) :
    (!(slice w lo n == v && slice w lo' m == u)) = noneHits [(fieldIs lo v).both (fieldIs lo' u)] w := by
  rw [noneHits, List.all_cons, List.all_nil, Bool.and_true, Pattern.both_hits_eq hv hu, fieldIs_hits _ _ _ h,
    fieldIs_hits _ _ _ h']

theorem isCond_slice (w : Word) : isCond (slice w 28 4) = noneHits [uncond] w := slice_bne w 28 _ (by decide)

theorem base_ne_slice (w : Word) : (slice w 16 4 != pcReg) = noneHits [basePc] w := slice_bne w 16 _ (by decide)

theorem low_ne_slice (w : Word) : (slice w 0 4 != pcReg) = noneHits [lowPc] w := slice_bne w 0 _ (by decide)

theorem mask_ne_slice (w : Word) : (slice w 16 4 != 0) = noneHits [noMask] w := slice_bne w 16 _ (by decide)

theorem imm5_ne_slice (w : Word) : (slice w 7 5 != 0) = noneHits [noShift] w := slice_bne w 7 _ (by decide)

theorem coproc_ne_slice (w : Word) : (slice w 8 4 != 15) = noneHits [cp15Number] w := slice_bne w 8 _ (by decide)

theorem vfpCoproc_slice (w : Word) : (!vfpCoproc (slice w 8 4)) = noneHits [vfpNumber] w := by
  have hhigh : ∀ c : BitVec 4, (!vfpCoproc c) = (c.extractLsb' 1 3 != 5) := by decide
  rw [vfpNumber, ← slice_bne _ _ _ (by decide), hhigh, ← slice_slice w (lo := 8) (by decide)]

theorem notPost_bits (w : Word) : notPost (bit w 24) (bit w 21) = noneHits [postWback] w := by
  have hpost : ∀ p u : BitVec 1, notPost (p.getLsbD 0) (u.getLsbD 0) = !(p == 0 && u == 1) := by decide
  rw [bit_eq_slice w (lo := 24) (n := 1) (i := 0) (by decide), bit_eq_slice w (lo := 21) (n := 1) (i := 0) (by decide), hpost]
  exact both_beq w (by decide) (by decide) (by decide) (by decide)

theorem transfer_bits (w : Word) : (bit w 24 || bit w 23 || bit w 21) = noneHits [noTransfer] w := by
  have hpuw : ∀ (pu : BitVec 2) (x : BitVec 1), (pu.getLsbD 1 || pu.getLsbD 0 || x.getLsbD 0) = !(pu == 0 && x == 0) := by
    decide
  rw [bit_eq_slice w (lo := 23) (n := 2) (i := 1) (by decide), bit_eq_slice w (lo := 23) (n := 2) (i := 0) (by decide),
    bit_eq_slice w (lo := 21) (n := 1) (i := 0) (by decide), hpuw]
  exact both_beq w (by decide) (by decide) (by decide) (by decide)

theorem five_le_hint (w : Word) : decide (5 ≤ (slice w 0 8).toNat) = noneHits namedHints w := by
  have hhint : ∀ h : BitVec 8, decide (5 ≤ h.toNat) = [(0 : BitVec 8), 1, 2, 3, 4].all fun v => !(h == v) := by decide +kernel
  rw [hhint, noneHits, namedHints, List.all_map]
  exact List.all_congr rfl fun v => congrArg (! ·) (fieldIs_hits 0 v w (by decide)).symm

theorem hint_lt_dbg (w : Word) : decide ((slice w 0 8).toNat < 0xF0) = noneHits [dbgHint] w := by
  have hhint : ∀ h : BitVec 8, decide (h.toNat < 0xF0) = (h.extractLsb' 4 4 != 15) := by decide +kernel
  rw [dbgHint, ← slice_bne _ _ _ (by decide), hhint, ← slice_slice w (lo := 0) (by decide)]

/-! ### The row of an instruction -/

/-- The rows' builders in the blocks of 20 in which the decoder lists them. -/
def builderBlocks : List (List (Word → Instr)) :=
  [builders0, builders1, builders2, builders3, builders4, builders5, builders6, builders7, builders8, builders9, builders10]

/-- What row `k` builds from its word, looked up by its block. -/
def rowInstr (k : Nat) : Word → Instr := (builderBlocks.getD (k / 20) []).getD (k % 20) .undefAnyOther

/-- An entry of a list made of blocks of one length is found by its block. -/
theorem getD_flatten {α : Type} (d : α) {n : Nat} (hn : 0 < n) :
    ∀ {ls : List (List α)} (k : Nat), (∀ l ∈ ls, l.length = n) → ls.flatten.getD k d = (ls.getD (k / n) []).getD (k % n) d
  | [], k, _ => by simp
  | l :: ls, k, hlen => by
    obtain ⟨hl, hls⟩ := List.forall_mem_cons.mp hlen
    rw [List.flatten_cons]
    by_cases hk : k < n
    · rw [Nat.div_eq_of_lt hk, Nat.mod_eq_of_lt hk, List.getD_append _ _ _ _ (hl ▸ hk), List.getD_cons_zero]
    · have hk' : n ≤ k := Nat.le_of_not_lt hk
      rw [List.getD_append_right _ _ _ _ (hl ▸ hk'), hl, getD_flatten d hn _ hls, Nat.div_eq_sub_div hn hk',
        List.getD_cons_succ, Nat.mod_eq_sub_mod hk']

theorem builders_eq_flatten : builders = builderBlocks.flatten := by simp [builders, builderBlocks]

theorem rowInstr_eq_getD (k : Nat) : rowInstr k = builders.getD k .undefAnyOther := by
  rw [builders_eq_flatten, getD_flatten _ (n := 20) (by decide) _ (by decide)]
  rfl

/-- R161: a word decodes to what its row builds from it. -/
theorem decode_eq_rowInstr (w : Word) : decode w = rowInstr (rowIndex w) w := by
  rw [decode, rowInstr_eq_getD]

theorem builders_row (w : Word) : builders.map (fun b => (b w).row) = List.range 220 := by
  have hblocks : builderBlocks.map (List.map fun b => (b w).row) = (List.range 11).map fun q => List.range' (20 * q) 20 := rfl
  rw [builders_eq_flatten, List.map_flatten, hblocks]
  decide +kernel

/-- R161: each row builds an instruction of its own row. -/
theorem rowInstr_row {k : Nat} (hk : k < 220) (w : Word) : (rowInstr k w).row = k := by
  have hlen : k < builders.length := hk
  have hget : (builders.map fun b => (b w).row)[k]? = (List.range 220)[k]? := by rw [builders_row]
  rw [List.getElem?_map, List.getElem?_range hk, List.getElem?_eq_getElem hlen] at hget
  rw [rowInstr_eq_getD, List.getD_eq_getElem _ _ hlen]
  exact Option.some.inj hget

/-- Row `k` fixes exactly the bits outside `free`, to those of `base`, and the earlier rows take from it the words that match a
pattern of `taken`. -/
def rowFits (k : Nat) (free base : Word) (taken : List Pattern) : Bool :=
  decide (k < 220) && rowPattern k == ⟨~~~free, base⟩ && base &&& free == 0 && earlierRowsTake k taken

/-- How an instruction stands for a word: it holds the word itself and asks for its row, or it holds the fields of an operand
layout, which are the bits that its row does not fix, and asks that no pattern of `taken` match: the words of the row that go to
earlier rows. What the tables say of its row is found by evaluating them. -/
inductive Instr.HasLayout (i : Instr) : Prop
  | raw {mk : Word → Instr} {w : Word} (hi : i = mk w) (hwf : ∀ w, (mk w).wf = (rowIndex w == i.row))
      (hbuild : ∀ w, rowInstr i.row w = mk w := by dsimp only [Instr.row]; exact fun _ => rfl)
      (hencode : ∀ w, encode (mk w) = w := by exact fun _ => rfl)
  | fields {α : Type} {ofWord : Word → α} {toWord : Word → α → Word} {free base : Word} {taken : List Pattern}
      (layout : FieldLayout ofWord toWord free) {mk : α → Instr} {o : α} (hi : i = mk o)
      (hwf : ∀ w, (mk (ofWord w)).wf = noneHits taken w)
      (hbuild : ∀ w, rowInstr i.row w = mk (ofWord w) := by dsimp only [Instr.row]; exact fun _ => rfl)
      (hencode : ∀ o, encode (mk o) = toWord base o := by exact fun _ => rfl)
      (hfits : rowFits i.row free base taken = true := by dsimp only [Instr.row]; decide +kernel)

/-- R161, R162: how every instruction stands for its words. The instructions are grouped by their operand layout. -/
theorem Instr.hasLayout (i : Instr) : i.HasLayout := by
  cases i with
  | simdDataProcessing w | simdLoadStore w | memHintImm w | unpredPldwImm w | unpredUncond1010011 w | unpredUncond1010111 w
  | unpredUncond1011x11 w | memHintReg w | unpredUncond11xxx11 w | undefUncondMisc w | srs w | rfe w | undefUncond1100000 w
  | vfpUncondLoadStore w | vfpUncondData w | undefUncondOther w | mrsMsrBanked w | eret w | hvc w | halfwordMultiply w
  | undefMisc w | umaal w | undefMultiply0101 w | undefMultiply0111 w | exclusiveWidths w | undefSync w | unpredLdrdStrd w
  | unpredMsrImm w | parallelAddSub w | pkh w | sel w | ssat16 w | ssat w | usat16 w | usat w | rbit w | signedMultiply w
  | usad8 w | undefCoproc00000 w | vfpLoadStore w | vfpData w | undefAnyOther w => exact .raw rfl fun _ => rfl
  | cps o => exact .fields CpsOp.layout rfl noneHits_nil
  | setend o => exact .fields SetendOp.layout rfl noneHits_nil
  | pliImm o | pldImm o => exact .fields PreloadImm.layout rfl noneHits_nil
  | pldwImm o => exact .fields PreloadImm.layout rfl base_ne_slice
  | clrex o => exact .fields ClrexOp.layout rfl noneHits_nil
  | dsb o | dmb o | isb o => exact .fields BarrierOp.layout rfl noneHits_nil
  | pliReg o | pldwReg o | pldReg o => exact .fields PreloadReg.layout rfl noneHits_nil
  | blxImm o => exact .fields BlxImmOp.layout rfl noneHits_nil
  | mcrr2 o => exact .fields Mcrr2Op.layout rfl vfpCoproc_slice
  | stc2 o => exact .fields Stc2Op.layout rfl fun w => and_noneHits (vfpCoproc_slice w) (transfer_bits w)
  | cdp2 o => exact .fields Cdp2Op.layout rfl vfpCoproc_slice
  | mcr2 o => exact .fields Mcr2Op.layout rfl vfpCoproc_slice
  | mrs o => exact .fields MrsOp.layout rfl isCond_slice
  | msrReg o => exact .fields MsrRegOp.layout rfl isCond_slice
  | bx o | bxj o | blxReg o => exact .fields BxOp.layout rfl isCond_slice
  | clz o | rev o | rev16 o | revsh o => exact .fields UnaryOp.layout rfl isCond_slice
  | qadd o => exact .fields QaddOp.layout rfl isCond_slice
  | bkpt o | udf o => exact .fields TrapOp.layout rfl isCond_slice
  | smc o => exact .fields SmcOp.layout rfl isCond_slice
  | mul o => exact .fields MulOp.layout rfl isCond_slice
  | mla o => exact .fields MlaOp.layout rfl isCond_slice
  | mls o => exact .fields MlsOp.layout rfl isCond_slice
  | umull o | umlal o | smull o | smlal o => exact .fields MulLongOp.layout rfl isCond_slice
  | swp o => exact .fields SwpOp.layout rfl isCond_slice
  | strex o => exact .fields StrexOp.layout rfl isCond_slice
  | ldrex o => exact .fields LdrexOp.layout rfl isCond_slice
  | strhtImm o | ldrhtImm o | ldrsbtImm o | ldrshtImm o => exact .fields ExtraTImm.layout rfl isCond_slice
  | strhtReg o | ldrhtReg o | ldrsbtReg o | ldrshtReg o => exact .fields ExtraTReg.layout rfl isCond_slice
  | strhImm o | ldrhImm o | ldrdImm o | ldrsbImm o | strdImm o | ldrshImm o =>
    exact .fields ExtraImm.layout rfl fun w => and_noneHits (isCond_slice w) (notPost_bits w)
  | strhReg o | ldrhReg o | ldrdReg o | ldrsbReg o | strdReg o | ldrshReg o =>
    exact .fields ExtraReg.layout rfl fun w => and_noneHits (isCond_slice w) (notPost_bits w)
  | movw o | movt o => exact .fields MovwOp.layout rfl isCond_slice
  | nop o | yield o | wfe o | wfi o | sev o => exact .fields HintOp.layout rfl isCond_slice
  | dbg o => exact .fields DbgOp.layout rfl isCond_slice
  | hintUnallocated o =>
    exact .fields HintUnallocOp.layout rfl fun w =>
      and_noneHits (and_noneHits (isCond_slice w) (five_le_hint w)) (hint_lt_dbg w)
  | msrImm o => exact .fields MsrImmOp.layout rfl fun w => and_noneHits (isCond_slice w) (mask_ne_slice w)
  | andImm o | eorImm o | subImm o | rsbImm o | addImm o | adcImm o | sbcImm o | rscImm o | orrImm o | bicImm o =>
    exact .fields DpImm.layout rfl isCond_slice
  | andReg o | eorReg o | subReg o | rsbReg o | addReg o | adcReg o | sbcReg o | rscReg o | orrReg o | bicReg o =>
    exact .fields DpReg.layout rfl isCond_slice
  | andRsr o | eorRsr o | subRsr o | rsbRsr o | addRsr o | adcRsr o | sbcRsr o | rscRsr o | orrRsr o | bicRsr o =>
    exact .fields DpRsr.layout rfl isCond_slice
  | tstImm o | teqImm o | cmpImm o | cmnImm o => exact .fields CmpImm.layout rfl isCond_slice
  | tstReg o | teqReg o | cmpReg o | cmnReg o => exact .fields CmpReg.layout rfl isCond_slice
  | tstRsr o | teqRsr o | cmpRsr o | cmnRsr o => exact .fields CmpRsr.layout rfl isCond_slice
  | movImm o | mvnImm o => exact .fields MovImm.layout rfl isCond_slice
  | movReg o | rrx o => exact .fields MovReg.layout rfl isCond_slice
  | lslImm o | rorImm o => exact .fields ShiftImm.layout rfl fun w => and_noneHits (isCond_slice w) (imm5_ne_slice w)
  | lsrImm o | asrImm o => exact .fields ShiftImm.layout rfl isCond_slice
  | lslReg o | lsrReg o | asrReg o | rorReg o => exact .fields ShiftReg.layout rfl isCond_slice
  | mvnReg o => exact .fields MvnReg.layout rfl isCond_slice
  | mvnRsr o => exact .fields MvnRsr.layout rfl isCond_slice
  | strtImm o | ldrtImm o | strbtImm o | ldrbtImm o => exact .fields LsTImm.layout rfl isCond_slice
  | strtReg o | ldrtReg o | strbtReg o | ldrbtReg o => exact .fields LsTReg.layout rfl isCond_slice
  | strImm o | ldrImm o | strbImm o | ldrbImm o =>
    exact .fields LsImm.layout rfl fun w => and_noneHits (isCond_slice w) (notPost_bits w)
  | strReg o | ldrReg o | strbReg o | ldrbReg o =>
    exact .fields LsReg.layout rfl fun w => and_noneHits (isCond_slice w) (notPost_bits w)
  | sxtb16 o | sxtb o | sxth o | uxtb16 o | uxtb o | uxth o => exact .fields ExtendOp.layout rfl isCond_slice
  | sxtab16 o | sxtab o | sxtah o | uxtab16 o | uxtab o | uxtah o =>
    exact .fields ExtendAddOp.layout rfl fun w => and_noneHits (isCond_slice w) (base_ne_slice w)
  | sbfx o | ubfx o => exact .fields BfxOp.layout rfl isCond_slice
  | bfc o => exact .fields BfcOp.layout rfl isCond_slice
  | bfi o => exact .fields BfiOp.layout rfl fun w => and_noneHits (isCond_slice w) (low_ne_slice w)
  | ldmExcReturn o => exact .fields LdmExcOp.layout rfl isCond_slice
  | ldmUser o => exact .fields LdmUserOp.layout rfl isCond_slice
  | stmUser o => exact .fields StmUserOp.layout rfl isCond_slice
  | stmda o | ldmda o | stm o | ldm o | stmdb o | ldmdb o | stmib o | ldmib o =>
    exact .fields BlockOp.layout rfl isCond_slice
  | b o | bl o | svc o => exact .fields BranchOp.layout rfl isCond_slice
  | mcrP15 o | mrcP15 o => exact .fields Cp15Op.layout rfl isCond_slice
  | mcrr o => exact .fields McrrOp.layout rfl fun w => and_noneHits (isCond_slice w) (vfpCoproc_slice w)
  | stc o =>
    exact .fields StcOp.layout rfl fun w => and_noneHits (and_noneHits (isCond_slice w) (vfpCoproc_slice w)) (transfer_bits w)
  | cdp o => exact .fields CdpOp.layout rfl fun w => and_noneHits (isCond_slice w) (vfpCoproc_slice w)
  | mcrOther o =>
    exact .fields McrOtherOp.layout rfl fun w =>
      and_noneHits (and_noneHits (isCond_slice w) (vfpCoproc_slice w)) (coproc_ne_slice w)

/-! ### Decode and encode -/

theorem rowFits_iff {k : Nat} {free base : Word} {taken : List Pattern} : rowFits k free base taken = true ↔
    k < 220 ∧ rowPattern k = ⟨~~~free, base⟩ ∧ base &&& free = 0 ∧ earlierRowsTake k taken = true := by
  simp [rowFits, and_assoc]

/-- A word is the fixed bits of its row and its own free bits. -/
theorem base_or_free {w free base : Word} (h : w &&& ~~~free = base) : base ||| (w &&& free) = w := by
  rw [← h, ← BitVec.and_or_distrib_left, BitVec.or_comm, BitVec.or_not_self, BitVec.and_allOnes]

/-- The fixed bits of a row stay under its mask whatever the free bits are. -/
theorem fixed_of_base_or {x free base : Word} (h : base &&& free = 0) : (base ||| (x &&& free)) &&& ~~~free = base := by
  have hbase : base &&& ~~~free = base := by simpa [h] using base_or_free (w := base) (free := ~~~free) rfl
  simp [or_and_mask, hbase, BitVec.and_assoc]

/-- R180: the row of an instruction builds it back from its word. -/
theorem Instr.rowInstr_encode (i : Instr) : rowInstr i.row (encode i) = i := by
  cases i.hasLayout with
  | raw hi _ hbuild hencode => rw [hbuild, hi, hencode]
  | fields layout hi _ hbuild hencode hfits =>
    obtain ⟨-, -, hbase, -⟩ := rowFits_iff.mp hfits
    rw [hbuild, hi, hencode, layout.ofWord_toWord _ hbase]

/-- R180: what a row builds from a word that matches it has that word. -/
theorem encode_rowInstr {k : Nat} {w : Word} (hk : k < 220) (hw : (rowPattern k).hits w = true) : encode (rowInstr k w) = w := by
  have hrow : (rowInstr k w).row = k := rowInstr_row hk w
  cases (rowInstr k w).hasLayout with
  | raw _ _ hbuild hencode =>
    rw [hrow] at hbuild
    rw [hbuild, hencode]
  | fields layout _ _ hbuild hencode hfits =>
    rw [hrow] at hbuild hfits
    obtain ⟨-, hpattern, -, -⟩ := rowFits_iff.mp hfits
    rw [hpattern, Pattern.hits_iff] at hw
    rw [hbuild, hencode, layout.toWord_ofWord, base_or_free hw]

/-- R161: the well-formed instructions are those whose word is of their own row. -/
theorem Instr.wf_iff (i : Instr) : i.wf = true ↔ rowIndex (encode i) = i.row := by
  have hback : rowInstr i.row (encode i) = i := i.rowInstr_encode
  cases i.hasLayout with
  | raw hi hwf hbuild hencode =>
    rw [hbuild] at hback
    conv_lhs => rw [← hback, hwf, beq_iff_eq]
  | fields layout hi hwf hbuild hencode hfits =>
    obtain ⟨hk, hpattern, hbase, htaken⟩ := rowFits_iff.mp hfits
    rw [hbuild] at hback
    have hown : (rowPattern i.row).hits (encode i) = true := by
      rw [hpattern, Pattern.hits_iff, ← hback, hencode, layout.toWord_ofWord]
      exact fixed_of_base_or hbase
    conv_lhs => rw [← hback, hwf]
    rw [rowIndex_eq_iff _ hk, no_earlier_hits_iff htaken hown, and_iff_right hown]

/-- Settles O1: the word of a well-formed instruction is of its own row, which builds it back. -/
theorem decodeOfEncodeIsTheInstruction : Obligations.DecodeOfEncodeIsTheInstruction := by
  intro i hwf
  rw [decode_eq_rowInstr, i.wf_iff.mp hwf, i.rowInstr_encode]

/-- Settles O2: the row of a word builds an instruction of that row, whose word it is, and so one that is well-formed. -/
theorem everyWordIsAnInstruction : Obligations.EveryWordIsAnInstruction := by
  intro w
  have hlt : rowIndex w < 220 := rowIndex_lt w
  have hhits : (rowPattern (rowIndex w)).hits w = true := ((rowIndex_eq_iff w hlt).mp rfl).1
  have hrow : rowIndex w = (decode w).row := by rw [decode_eq_rowInstr, rowInstr_row hlt]
  have hencode : encode (decode w) = w := by rw [decode_eq_rowInstr, encode_rowInstr hlt hhits]
  exact ⟨(decode w).wf_iff.mpr (hencode.symm ▸ hrow), hencode, hrow⟩

end Sys2Proof
end

section
/-! SUPPORT. The encodings whose outcome is fixed by the word: the UNPREDICTABLE ones (R190), the UNDEFINED ones and the absent
coprocessors (R191, R496), and the rows that halt in every state (R192, R193). Obligations O15, O25 and O60
(spec/30_encoding.md) are settled here. -/

namespace Sys2Proof

open Machine

/-! ### UNPREDICTABLE encodings -/

namespace Machine

/-- R190: an UNPREDICTABLE case of the encoding halts before the condition is tested. -/
theorem runInstr_unpredictable {cond : Cond} {cases : List (Bool × Unpred)} {s : State} {body : State → Res Unit}
    (h : cases.any Prod.fst = true) : ∃ c, runInstr cond cases s body = .fault (.unpredictable c) := by
  cases hc : firstCase cases with
  | none => simp [firstCase_eq_none.mp hc] at h
  | some c => exact ⟨c, by rw [runInstr, hc]⟩

end Machine

theorem exec_unpredictable_of_conditional {i : Instr} {s : State} (hi : i.unpredictable = true → i.condition ≠ none)
    (h : i.unpredictable = true) : ∃ c, exec i s = .fault (.unpredictable c) := by
  have hcond' : i.condition ≠ none := hi h
  cases i.hasMeaning with
  | conditional _ hexec hunpred _ => exact hexec s ▸ runInstr_unpredictable (hunpred ▸ h)
  | always hcond _ _ _ => exact absurd hcond hcond'
  | undefined hcond _ => exact absurd hcond hcond'
  | halts hcond _ => exact absurd hcond hcond'

theorem exec_unpredictable_of_always {i : Instr} {s : State} {cases : List (Bool × Unpred)} {body : State → Res Unit}
    (hexec : exec i s = runAlways cases s body) (hunpred : i.unpredictable = cases.any Prod.fst) (h : i.unpredictable = true) :
    ∃ c, exec i s = .fault (.unpredictable c) :=
  hexec ▸ runInstr_unpredictable (hunpred ▸ h)

/-- R190, R192: QADD, SWP and SMC halt by their should-be-zero field (log entry 24). -/
theorem exec_qadd (o : QaddOp) (s : State) : exec (.qadd o) s =
    if (Instr.qadd o).unpredictable then .fault (.unpredictable (.rule 190)) else .fault (.notImplemented .saturating) := rfl

theorem exec_swp (o : SwpOp) (s : State) : exec (.swp o) s =
    if (Instr.swp o).unpredictable then .fault (.unpredictable (.rule 190)) else .fault (.notImplemented .swp) := rfl

theorem exec_smc (o : SmcOp) (s : State) : exec (.smc o) s =
    if (Instr.smc o).unpredictable then .fault (.unpredictable (.rule 190)) else .fault (.notImplemented .smc) := rfl

/-- Settles O15: the rows that a table makes UNPREDICTABLE, the three that halt by a should-be field alone, the instructions
without a condition, and the others, whose cases are decided before their condition. -/
theorem unpredictableEncodingsHalt : Obligations.UnpredictableEncodingsHalt := by
  intro i s hunpred
  cases i with
  | unpredPldwImm w | unpredUncond1010011 w | unpredUncond1010111 w | unpredUncond1011x11 w | unpredUncond11xxx11 w
  | unpredLdrdStrd w | unpredMsrImm w => exact ⟨_, rfl⟩
  | qadd o => exact ⟨.rule 190, (exec_qadd o s).trans (if_pos hunpred)⟩
  | swp o => exact ⟨.rule 190, (exec_swp o s).trans (if_pos hunpred)⟩
  | smc o => exact ⟨.rule 190, (exec_smc o s).trans (if_pos hunpred)⟩
  | cps o | setend o | pliImm o | pldwImm o | pldImm o | clrex o | dsb o | dmb o | isb o | pliReg o | pldwReg o | pldReg o =>
    refine exec_unpredictable_of_always (by dsimp only [exec]; rfl) ?_ hunpred
    simp [Instr.unpredictable, cpsInconsistent_eq, Bool.or_assoc]
  | _ => exact exec_unpredictable_of_conditional (by simp [Instr.unpredictable, Instr.condition]) hunpred

/-! ### UNDEFINED encodings and absent coprocessors -/

/-- R191, R496: the UNDEFINED rows raise the exception at once, the absent coprocessors in the body that a passed condition
runs. -/
theorem exec_of_isUndefined {i : Instr} {s : State} (hi : i.isUndefined = true) (hpass : i.passes s = true) :
    exec i s = takeException .undefined (s.pc + 4) s := by
  cases i with
  | undefUncondMisc w | undefUncond1100000 w | undefUncondOther w | mcrr2 o | stc2 o | cdp2 o | mcr2 o | mrsMsrBanked w
  | eret w | hvc w | undefMisc w | undefMultiply0101 w | undefMultiply0111 w | undefSync w | udf o | undefCoproc00000 w
  | undefAnyOther w => rfl
  | mcrr o | stc o | cdp o | mcrOther o =>
    refine (Instr.exec_of_runs (body := fun s => .exc .undefined s) ⟨rfl, hpass⟩ rfl rfl (by dsimp only [exec]; rfl)).trans ?_
    exact takeException_starting _ _ s
  | _ => exact absurd hi Bool.false_ne_true

/-- Settles O25: SCTLR.TE decides whether the entry of the Undefined Instruction exception is made. -/
theorem undefinedInstructionsTrap : Obligations.UndefinedInstructionsTrap := by
  intro i s hi hpass
  have hexec : exec i s = takeException .undefined (s.pc + 4) s := exec_of_isUndefined hi hpass
  refine ⟨hexec, fun hte => ?_, fun hte => ?_⟩
  · exact hexec.trans (if_pos hte)
  · exact hexec.trans (if_neg (ne_true_of_eq_false hte))

/-! ### Rows that always halt -/

/-- Settles O60: each row's meaning is its fault, but for QADD, SWP and SMC, whose should-be-zero field holds. -/
theorem unimplementedRowsHalt : Obligations.UnimplementedRowsHalt := by
  intro s
  refine ⟨fun w => ?simdOrVfp, fun w => ?unpredictable, fun w => ?notImplemented, fun _ => rfl, fun _ => rfl,
    fun o h => ?qadd, fun o h => ?swp, fun o h => ?smc⟩
  case simdOrVfp => exact ⟨rfl, rfl, rfl, rfl, rfl, rfl⟩
  case unpredictable => exact ⟨rfl, rfl, rfl, rfl, rfl, rfl, rfl⟩
  case notImplemented => exact ⟨rfl, rfl, rfl, rfl, rfl, rfl, rfl, rfl, rfl, rfl, rfl, rfl, rfl, rfl, rfl⟩
  case qadd => exact (exec_qadd o s).trans (if_neg (ne_true_of_eq_false h))
  case swp => exact (exec_swp o s).trans (if_neg (ne_true_of_eq_false h))
  case smc => exact (exec_smc o s).trans (if_neg (ne_true_of_eq_false h))

end Sys2Proof
end

section
/-! SUPPORT. O37 to O39 (spec/40_data_processing.md): the sum of `addWithCarry`, the bits of the shifts, the shifter operand. -/

namespace Sys2Proof.Machine

/-! ### AddWithCarry (R220) -/

theorem addWithCarry_value (x y : Word) (c : Bool) :
    (addWithCarry x y c).value = x + y + BitVec.ofNat 32 c.toNat := by
  apply BitVec.eq_of_toNat_eq
  simp [addWithCarry]

theorem addWithCarry_carry (x y : Word) (c : Bool) :
    (addWithCarry x y c).carry = decide (2 ^ 32 ≤ x.toNat + y.toNat + c.toNat) := by
  rw [Bool.eq_iff_iff, decide_eq_true_iff]
  show ((BitVec.ofNat 32 _).toNat != _) = true ↔ _
  rw [bne_iff_ne, BitVec.toNat_ofNat]
  omega

/-- R220: the signed reading of the result is the exact signed sum, brought into the range of a word. -/
theorem toInt_sum (x y : Word) (c : Bool) :
    (BitVec.ofNat 32 (x.toNat + y.toNat + c.toNat)).toInt = (x.toInt + y.toInt + c.toNat).bmod (2 ^ 32) := by
  rw [BitVec.toInt_ofNat', BitVec.toInt_eq_toNat_bmod x, BitVec.toInt_eq_toNat_bmod y, Int.add_assoc, Int.bmod_add_bmod,
    Int.add_left_comm, Int.bmod_add_bmod]
  congr 1
  push_cast
  ring

theorem addWithCarry_overflow (x y : Word) (c : Bool) :
    (addWithCarry x y c).overflow = outOfRange (x.toInt + y.toInt + c.toNat) := by
  rw [Bool.eq_iff_iff, outOfRange, decide_eq_true_iff]
  show ((BitVec.ofNat 32 _).toInt != _) = true ↔ _
  rw [bne_iff_ne, toInt_sum, Ne, Int.bmod_eq_iff (by decide)]
  omega

theorem addWithCarry_eq (x y : Word) (c : Bool) : addWithCarry x y c =
    ⟨x + y + BitVec.ofNat 32 c.toNat, decide (2 ^ 32 ≤ x.toNat + y.toNat + c.toNat),
      outOfRange (x.toInt + y.toInt + c.toNat)⟩ := by
  rw [← addWithCarry_value, ← addWithCarry_carry, ← addWithCarry_overflow]

theorem addWithCarry_comm (x y : Word) (c : Bool) : addWithCarry x y c = addWithCarry y x c := by
  rw [addWithCarry_eq, addWithCarry_eq, BitVec.add_comm x, Nat.add_comm x.toNat, Int.add_comm x.toInt]

/-- The signed reading of a complement. -/
theorem toInt_not (y : Word) : (~~~y).toInt = -y.toInt - 1 := by
  have hy := y.isLt
  rw [BitVec.toInt_eq_toNat_cond, BitVec.toInt_eq_toNat_cond, BitVec.toNat_not]
  split_ifs <;> omega

/-- R220: adding the complement subtracts, with a clear carry in as the borrow; the carry out says that nothing was borrowed. -/
theorem addWithCarry_not (x y : Word) (c : Bool) : addWithCarry x (~~~y) c =
    ⟨x - y - BitVec.ofNat 32 (!c).toNat, decide (y.toNat + (!c).toNat ≤ x.toNat),
      outOfRange (x.toInt - y.toInt - (!c).toNat)⟩ := by
  rw [addWithCarry_eq, toInt_not, BitVec.toNat_not]
  congr 1
  · cases c <;> simp only [Bool.not_true, Bool.not_false, Bool.toNat_true, Bool.toNat_false] <;> bv_omega
  · rw [decide_eq_decide]
    cases c <;> simp <;> omega
  · congr 1
    cases c <;> simp <;> ring

/-- Settles O37: the exact sums, and the complement as a difference less the borrow. -/
theorem addWithCarryIsExact : Obligations.AddWithCarryIsExact := by
  intro x y c
  refine ⟨?_, addWithCarry_overflow x y c, ?_, ?_⟩
  · have hc := c.toNat_le
    rw [addWithCarry_carry]
    show (BitVec.ofNat 32 _).toNat + _ = _
    rw [BitVec.toNat_ofNat]
    by_cases h : 2 ^ 32 ≤ x.toNat + y.toNat + c.toNat
    · rw [decide_eq_true h, Bool.toNat_true]
      omega
    · rw [decide_eq_false h, Bool.toNat_false]
      omega
  · simp [addWithCarry_not]
  · simp [addWithCarry_not]

/-- R230 to R237, R242, R244: what an operation computes, in the terms of its rules. -/
theorem DpOp.eval_eq (op : DpOp) (x y : Word) (c sc v : Bool) :
    op.eval x y c sc v = ⟨op.result x y c, op.carryOut x y c sc, op.overflows x y c v⟩ := by
  cases op with
  | and | eor | orr | bic => rfl
  | add => simp [DpOp.eval, addWithCarry_eq, DpOp.result, DpOp.carryOut, DpOp.overflows]
  | adc => exact addWithCarry_eq x y c
  | sub => simp [DpOp.eval, addWithCarry_not, DpOp.result, DpOp.carryOut, DpOp.overflows]
  | sbc => exact addWithCarry_not x y c
  | rsb => simp [DpOp.eval, addWithCarry_comm (~~~x), addWithCarry_not, DpOp.result, DpOp.carryOut, DpOp.overflows]
  | rsc => exact (addWithCarry_comm _ y c).trans (addWithCarry_not y x c)

/-! ### Shift_C (R221) -/

@[simp] theorem shiftC_zero (x : Word) (ty : ShiftType) (c : Bool) : shiftC x ty 0 c = (x, c) := rfl

section Shift

variable (x : Word) (c : Bool) {n : Nat} (hn : 0 < n)
include hn

theorem shiftC_lsl : shiftC x .lsl n c = (x <<< n, decide (n ≤ 32) && x.getLsbD (32 - n)) := if_neg (by omega)

theorem shiftC_lsr : shiftC x .lsr n c = (x >>> n, decide (n ≤ 32) && x.getLsbD (n - 1)) := if_neg (by omega)

theorem shiftC_asr : shiftC x .asr n c =
    (x.sshiftRight n, if 32 ≤ n then x.getLsbD 31 else x.getLsbD (n - 1)) := if_neg (by omega)

theorem shiftC_ror : shiftC x .ror n c = (ror x n, (ror x n).getLsbD 31) := if_neg (by omega)

end Shift

/-- R8: a rotation takes bit `j` from `n` places above it, round the word. -/
theorem getLsbD_ror (x : Word) (n : Nat) {j : Nat} (hj : j < 32) : (ror x n).getLsbD j = x.getLsbD ((j + n) % 32) := by
  have hn : n % 32 < 32 := Nat.mod_lt n (by decide)
  have hmod : (j + n) % 32 = (j + n % 32) % 32 := (Nat.add_mod_mod j n 32).symm
  rw [hmod, ror, BitVec.getLsbD_or, BitVec.getLsbD_ushiftRight, BitVec.getLsbD_shiftLeft]
  generalize n % 32 = k at hn
  by_cases h : j + k < 32
  · rw [Nat.mod_eq_of_lt h, Nat.add_comm k]
    by_cases hk : k = 0
    · simp [hk, hj]
    · have hlow : j < (32 - k) % 32 := by omega
      simp [hlow]
  · have hhigh : (32 - k) % 32 ≤ j := by omega
    have hwrap : (j + k) % 32 = j - (32 - k) % 32 := by omega
    have hout : x.getLsbD (k + j) = false := BitVec.getLsbD_of_ge x _ (by omega)
    simp [hout, hj, hwrap, hhigh]

theorem getLsbD_shiftC_rrx (x : Word) (c : Bool) {j : Nat} (hj : j < 32) :
    (shiftC x .rrx 1 c).1.getLsbD j = if j = 31 then c else x.getLsbD (j + 1) := by
  show (placeBit c 31 ||| x >>> 1).getLsbD j = _
  rw [BitVec.getLsbD_or, BitVec.getLsbD_ushiftRight, Nat.add_comm 1]
  split
  · have hcarry : bit (placeBit c 31) 31 = c := bit_placeBit_same c 31 (by decide)
    subst j
    rw [← bit, hcarry, BitVec.getLsbD_of_ge x _ (by decide), Bool.or_false]
  · have hcarry : bit (placeBit c 31) j = false := bit_placeBit_other c 31 j (by omega)
    rw [← bit, hcarry, Bool.false_or]

/-- Settles O38: each shift's bits, with the amounts beyond the word in the same cases as the others. -/
theorem shiftCarriesTheLastBitOut : Obligations.ShiftCarriesTheLastBitOut := by
  intro x n c j hj
  refine ⟨fun ty => shiftC_zero x ty c, fun hn => ?_, getLsbD_shiftC_rrx x c hj, rfl⟩
  rw [shiftC_lsl x c hn, shiftC_lsr x c hn, shiftC_asr x c hn, shiftC_ror x c hn]
  refine ⟨?lsl, rfl, ?lsr, ?lsrCarry, ?asr, ?asrCarry, getLsbD_ror x n hj, getLsbD_ror x n (by decide)⟩
  case lsl =>
    rw [BitVec.getLsbD_shiftLeft, decide_eq_true hj, Bool.true_and, ← decide_not]
    simp only [Nat.not_lt]
  case lsr =>
    rw [BitVec.getLsbD_ushiftRight, Nat.add_comm]
  case lsrCarry =>
    by_cases h : n ≤ 32
    · simp [h]
    · rw [BitVec.getLsbD_of_ge x _ (by omega), Bool.and_false]
  case asr =>
    rw [BitVec.getLsbD_sshiftRight, BitVec.msb_eq_getLsbD_last, decide_eq_false (Nat.not_le.mpr hj), Nat.add_comm n]
    by_cases h : j + n < 32
    · have hmin : min (j + n) 31 = j + n := Nat.min_eq_left (Nat.le_of_lt_succ h)
      simp [h, hmin]
    · have hmin : min (j + n) 31 = 31 := Nat.min_eq_right (by omega)
      simp [h, hmin]
  case asrCarry =>
    by_cases h : 32 ≤ n
    · have hmin : min (n - 1) 31 = 31 := Nat.min_eq_right (by omega)
      rw [hmin, if_pos h]
    · have hmin : min (n - 1) 31 = n - 1 := Nat.min_eq_left (by omega)
      rw [hmin, if_neg h]

/-! ### The shifter operand (R222) -/

theorem operandReg_lsl (rm : Reg) (imm5 : BitVec 5) (s : State) :
    operandReg rm 0b00 imm5 s = s.shifted rm .lsl imm5.toNat := rfl

theorem operandReg_lsr (rm : Reg) (imm5 : BitVec 5) (s : State) :
    operandReg rm 0b01 imm5 s = s.shifted rm .lsr (immAmount imm5) := rfl

theorem operandReg_asr (rm : Reg) (imm5 : BitVec 5) (s : State) :
    operandReg rm 0b10 imm5 s = s.shifted rm .asr (immAmount imm5) := rfl

theorem operandReg_rrx (rm : Reg) (s : State) : operandReg rm 0b11 0 s = s.shifted rm .rrx 1 := rfl

theorem operandReg_ror (rm : Reg) {imm5 : BitVec 5} (h : imm5 ≠ 0) (s : State) :
    operandReg rm 0b11 imm5 s = s.shifted rm .ror imm5.toNat := by
  have hsh : decodeImmShift 0b11 imm5 = (.ror, imm5.toNat) := if_neg h
  rw [operandReg, hsh, State.shifted]

/-- R186, R251 to R254: the amount of a shift by register is the value of the register's low byte. -/
theorem operandRsr_eq (rm : Reg) (ty : ShiftType) (rs : Reg) (s : State) :
    operandRsr rm ty rs s = s.shifted rm ty (s.shiftAmount rs) := by
  rw [operandRsr, State.shifted, State.shiftAmount, slice, BitVec.extractLsb'_toNat, Nat.shiftRight_zero]

theorem ror_zero (x : Word) : ror x 0 = x := by
  simp [ror]

/-- R185: the value is the rotated byte for every rotation, a zero one keeps the carry. -/
theorem operandImm_eq (imm12 : BitVec 12) (s : State) :
    operandImm imm12 s =
      let value := ror (zext (imm12.extractLsb' 0 8)) (2 * (imm12.extractLsb' 8 4).toNat)
      (value, if imm12.extractLsb' 8 4 = 0 then psrC s.cpsr else bit value 31) := by
  by_cases h : imm12.extractLsb' 8 4 = 0
  · simp [operandImm, armExpandImmC, h, ror_zero]
  · have hrot : 2 * (imm12.extractLsb' 8 4).toNat ≠ 0 := by
      have hne : (imm12.extractLsb' 8 4).toNat ≠ 0 := fun h0 => h (BitVec.eq_of_toNat_eq h0)
      omega
    simp only [operandImm, armExpandImmC, if_neg hrot, if_neg h]

/-- R185: each bit of the rotated immediate. -/
theorem getLsbD_operandImm (imm12 : BitVec 12) (s : State) {j : Nat} (hj : j < 32) :
    (operandImm imm12 s).1.getLsbD j =
      (imm12.extractLsb' 0 8).getLsbD ((j + 2 * (imm12.extractLsb' 8 4).toNat) % 32) := by
  have hlt : (j + 2 * (imm12.extractLsb' 8 4).toNat) % 32 < 32 := Nat.mod_lt _ (by decide)
  rw [operandImm_eq]
  show (ror (zext _) _).getLsbD j = _
  rw [getLsbD_ror _ _ hj, zext, BitVec.getLsbD_setWidth, decide_eq_true hlt, Bool.true_and]

theorem operandImm_carry (imm12 : BitVec 12) (s : State) : (operandImm imm12 s).2 =
    if imm12.extractLsb' 8 4 = 0 then s.cpsr.getLsbD 29 else (operandImm imm12 s).1.getLsbD 31 := by
  rw [operandImm_eq]
  rfl

/-- Settles O39: the immediate form is one rotation, and the register forms are `Shift_C` with the decoded amount. -/
theorem shifterOperandForms : Obligations.ShifterOperandForms := by
  intro s rm rs imm12 imm5
  refine ⟨fun j hj => getLsbD_operandImm imm12 s hj, operandImm_carry imm12 s, operandReg_lsl rm imm5 s,
    operandReg_lsr rm imm5 s, operandReg_asr rm imm5 s, ?_, operandRsr_eq rm .lsl rs s, operandRsr_eq rm .lsr rs s,
    operandRsr_eq rm .asr rs s, operandRsr_eq rm .ror rs s⟩
  split
  · subst imm5
    exact operandReg_rrx rm s
  · exact operandReg_ror rm ‹_› s

end Sys2Proof.Machine
end

section
/-! SUPPORT. O40 to O43 (spec/40_data_processing.md): every data-processing instruction with a destination ends as `WriteDP` of
its result (`Instr.WritesDp`), which writes a register and the flags, or branches. O3: words of examples of the rules. -/

namespace Sys2Proof

open Machine

namespace Machine

/-! ### The destination write (R223) -/

/-- The sign of a word is its highest bit. -/
theorem bit31_eq_msb (x : Word) : bit x 31 = x.msb := (BitVec.msb_eq_getLsbD_last x).symm

/-- R223: a destination other than the PC is written with, for S = 1, the four flags. -/
theorem finish_writeDP {rd : Reg} (hrd : rd ≠ pcReg) (sf : Bool) (value : Word) (c v : Bool) (s : State) :
    finish (writeDP rd sf value c v s.starting) = .next (s.wroteDp sf rd value c v) := by
  have hset (t : State) : t.setReg rd value = { t with cells := t.cells.set (cellOf t.mode rd) value } := if_neg hrd
  simp only [writeDP, if_neg hrd, State.wroteDp, hset, setNZCV_eq_withNZCV, bit31_eq_msb]
  cases sf <;> rfl

/-- R41, R42, R223: with S = 0 the PC is written by a branch to the value. -/
theorem finish_writeDP_pc (value : Word) (c v : Bool) (s : State) :
    finish (writeDP pcReg false value c v s.starting) =
      if value.getLsbD 0 then .fault (.notImplemented .thumb)
      else if value.getLsbD 1 then .fault (.unpredictable (.rule 41))
      else .next { s with pc := value, pendingBranch := none } := by
  show finish (if value.getLsbD 0 then _ else if value.getLsbD 1 then _ else _) = _
  rw [apply_ite finish, apply_ite finish]
  rfl

end Machine

/-! ### What an instruction writes -/

/-- R223: an instruction that runs ends as `WriteDP` of a value, with a carry and an overflow. -/
def Instr.WritesDp (i : Instr) (sf : Bool) (rd : Reg) (value : State → Word) (carry overflow : State → Bool) : Prop :=
  ∀ s : State, i.runs s → exec i s = finish (writeDP rd sf (value s) (carry s) (overflow s) s.starting)

section WritesDp

variable {i : Instr} {sf : Bool} {rd : Reg} {value : State → Word} {carry overflow : State → Bool}

/-- R223: with a destination other than the PC, the destination, the flags and the PC change. -/
theorem Instr.WritesDp.exec_of_ne (h : i.WritesDp sf rd value carry overflow) {s : State} (hr : i.runs s) (hrd : rd ≠ pcReg) :
    exec i s = .next (s.wroteDp sf rd (value s) (carry s) (overflow s)) :=
  (h s hr).trans (finish_writeDP hrd sf _ _ _ s)

theorem Instr.WritesDp.moves (h : i.WritesDp sf rd value carry fun s => psrV s.cpsr) : Moves i sf rd value carry :=
  fun _ hr hrd => h.exec_of_ne hr hrd

theorem Instr.WritesDp.branchesTo (h : i.WritesDp sf rd value carry overflow) (hsf : sf = false) (hrd : rd = pcReg) :
    BranchesTo i value := by
  intro s hr
  subst hsf hrd
  rw [h s hr, finish_writeDP_pc]
  refine ⟨fun h0 => if_pos h0, fun h0 h1 => ?_, fun h0 h1 => ?_⟩
  · rw [h0, h1]
    rfl
  · rw [h0, h1]
    rfl

end WritesDp

/-- R243, R245 to R254: the value and the carry are those of an operand, V stays. -/
def Instr.MovesOperand (i : Instr) (sf : Bool) (rd : Reg) (operand : State → Word × Bool) : Prop :=
  i.WritesDp sf rd (fun s => (operand s).1) (fun s => (operand s).2) fun s => psrV s.cpsr

/-- An instruction whose body moves an operand, its condition and UNPREDICTABLE cases as its encoding gives them. -/
theorem Instr.movesOperand_of_exec {i : Instr} {cond : Cond} {cases : List (Bool × Unpred)} {sf : Bool} {rd : Reg}
    {operand : State → Word × Bool} (hexec : ∀ s, exec i s = runInstr cond cases s fun s => moveBody sf rd (operand s) s)
    (hcond : i.condition = some cond) (hunpred : i.unpredictable = cases.any Prod.fst)
    (hstart : ∀ s : State, operand s.starting = operand s) : i.MovesOperand sf rd operand := by
  intro s hr
  rw [Instr.exec_of_runs hr hcond hunpred (hexec s), hstart]
  rfl

namespace Machine

/-! ### The operations of R230 to R244 -/

/-- R222, R190: the UNPREDICTABLE cases of a form. -/
def DpForm.cases : DpForm → List (Bool × Unpred)
  | .imm _ | .reg _ => []
  | .rsr o => [rsrPc [o.rd, o.rn, o.rm, o.rs]]

def DpForm.cond : DpForm → Cond
  | .imm o => o.cond
  | .reg o => o.cond
  | .rsr o => o.cond

theorem DpOp.exec_instr (op : DpOp) (f : DpForm) (s : State) : exec (op.instr f) s =
    runInstr f.cond f.cases s fun s => dpBody op f.setsFlags f.rd f.rn (f.operand s) s := by
  cases f <;> cases op <;> rfl

theorem DpOp.condition_instr (op : DpOp) (f : DpForm) : (op.instr f).condition = some f.cond := by
  cases f <;> cases op <;> rfl

theorem DpOp.unpredictable_instr (op : DpOp) (f : DpForm) : (op.instr f).unpredictable = f.cases.any Prod.fst := by
  cases f with
  | imm o | reg o => cases op <;> rfl
  | rsr o => cases op <;> simp [DpOp.instr, Instr.unpredictable, DpForm.cases, Bool.or_assoc]

theorem DpForm.operand_starting (f : DpForm) (s : State) : f.operand s.starting = f.operand s := by
  cases f <;> rfl

theorem DpOp.writesDp (op : DpOp) (f : DpForm) : (op.instr f).WritesDp f.setsFlags f.rd
    (fun s => op.result (s.reg f.rn) (f.operand s).1 (psrC s.cpsr))
    (fun s => op.carryOut (s.reg f.rn) (f.operand s).1 (psrC s.cpsr) (f.operand s).2)
    (fun s => op.overflows (s.reg f.rn) (f.operand s).1 (psrC s.cpsr) (psrV s.cpsr)) := by
  intro s hr
  rw [Instr.exec_of_runs hr (op.condition_instr f) (op.unpredictable_instr f) (op.exec_instr f s)]
  simp only [f.operand_starting, dpBody, DpOp.eval_eq]
  rfl

/-- Settles O40: the body ends as `WriteDP` of what the rules say the operation computes. -/
theorem dataProcessingResults : Obligations.DataProcessingResults :=
  fun op f _ hr hrd => (op.writesDp f).exec_of_ne hr hrd

/-! ### The compares and tests of R238 to R241 -/

/-- R222, R190: the UNPREDICTABLE cases of a form. -/
def CmpForm.cases : CmpForm → List (Bool × Unpred)
  | .imm o => [sbz o.sbz15_12]
  | .reg o => [sbz o.sbz15_12]
  | .rsr o => [sbz o.sbz15_12, rsrPc [o.rn, o.rm, o.rs]]

def CmpForm.cond : CmpForm → Cond
  | .imm o => o.cond
  | .reg o => o.cond
  | .rsr o => o.cond

theorem CmpOp.exec_instr (op : CmpOp) (f : CmpForm) (s : State) : exec (op.instr f) s =
    runInstr f.cond f.cases s fun s => testBody op.operation f.rn (f.operand s) s := by
  cases f <;> cases op <;> rfl

theorem CmpOp.condition_instr (op : CmpOp) (f : CmpForm) : (op.instr f).condition = some f.cond := by
  cases f <;> cases op <;> rfl

theorem CmpOp.unpredictable_instr (op : CmpOp) (f : CmpForm) : (op.instr f).unpredictable = f.cases.any Prod.fst := by
  cases f with
  | imm o | reg o | rsr o => cases op <;> simp [CmpOp.instr, Instr.unpredictable, CmpForm.cases, Bool.or_assoc]

theorem CmpForm.operand_starting (f : CmpForm) (s : State) : f.operand s.starting = f.operand s := by
  cases f <;> rfl

/-- Settles O41: the body writes the flags that the rules give the operation. -/
theorem compareResults : Obligations.CompareResults := by
  intro op f s hr x y c value
  rw [Instr.exec_of_runs hr (op.condition_instr f) (op.unpredictable_instr f) (op.exec_instr f s)]
  simp only [f.operand_starting, testBody, DpOp.eval_eq, setNZCV_eq_withNZCV, bit31_eq_msb]
  rfl

end Machine

/-! ### The moves of R243 and R245 to R254 -/

theorem movImm_movesOperand (o : MovImm) : (Instr.movImm o).MovesOperand o.s o.rd (operandImm o.imm12) :=
  Instr.movesOperand_of_exec (fun _ => rfl) rfl (by simp [Instr.unpredictable]) fun _ => rfl

theorem mvnImm_movesOperand (o : MovImm) :
    (Instr.mvnImm o).MovesOperand o.s o.rd fun s => complement (operandImm o.imm12 s) :=
  Instr.movesOperand_of_exec (fun _ => rfl) rfl (by simp [Instr.unpredictable]) fun _ => rfl

theorem movReg_movesOperand (o : MovReg) : (Instr.movReg o).MovesOperand o.s o.rd fun s => s.shifted o.rm .lsl 0 :=
  Instr.movesOperand_of_exec (fun _ => rfl) rfl (by simp [Instr.unpredictable]) fun _ => rfl

theorem rrx_movesOperand (o : MovReg) : (Instr.rrx o).MovesOperand o.s o.rd fun s => s.shifted o.rm .rrx 1 :=
  Instr.movesOperand_of_exec (fun _ => rfl) rfl (by simp [Instr.unpredictable]) fun _ => rfl

theorem lslImm_movesOperand (o : ShiftImm) :
    (Instr.lslImm o).MovesOperand o.s o.rd fun s => s.shifted o.rm .lsl o.imm5.toNat :=
  Instr.movesOperand_of_exec (fun _ => rfl) rfl (by simp [Instr.unpredictable]) fun _ => rfl

theorem lsrImm_movesOperand (o : ShiftImm) :
    (Instr.lsrImm o).MovesOperand o.s o.rd fun s => s.shifted o.rm .lsr (immAmount o.imm5) :=
  Instr.movesOperand_of_exec (fun _ => rfl) rfl (by simp [Instr.unpredictable]) fun _ => rfl

theorem asrImm_movesOperand (o : ShiftImm) :
    (Instr.asrImm o).MovesOperand o.s o.rd fun s => s.shifted o.rm .asr (immAmount o.imm5) :=
  Instr.movesOperand_of_exec (fun _ => rfl) rfl (by simp [Instr.unpredictable]) fun _ => rfl

theorem rorImm_movesOperand (o : ShiftImm) (h : o.imm5 ≠ 0) :
    (Instr.rorImm o).MovesOperand o.s o.rd fun s => s.shifted o.rm .ror o.imm5.toNat := by
  simp only [← operandReg_ror o.rm h]
  exact Instr.movesOperand_of_exec (fun _ => rfl) rfl (by simp [Instr.unpredictable]) fun _ => rfl

theorem shiftReg_movesOperand (o : ShiftReg) :
    (Instr.lslReg o).MovesOperand o.s o.rd (fun s => s.shifted o.rm .lsl (s.shiftAmount o.rs)) ∧
    (Instr.lsrReg o).MovesOperand o.s o.rd (fun s => s.shifted o.rm .lsr (s.shiftAmount o.rs)) ∧
    (Instr.asrReg o).MovesOperand o.s o.rd (fun s => s.shifted o.rm .asr (s.shiftAmount o.rs)) ∧
    (Instr.rorReg o).MovesOperand o.s o.rd (fun s => s.shifted o.rm .ror (s.shiftAmount o.rs)) := by
  simp only [← operandRsr_eq]
  refine ⟨Instr.movesOperand_of_exec (fun _ => rfl) rfl ?_ fun _ => rfl,
    Instr.movesOperand_of_exec (fun _ => rfl) rfl ?_ fun _ => rfl,
    Instr.movesOperand_of_exec (fun _ => rfl) rfl ?_ fun _ => rfl,
    Instr.movesOperand_of_exec (fun _ => rfl) rfl ?_ fun _ => rfl⟩ <;>
    simp [Instr.unpredictable, Bool.or_assoc]

theorem mvnReg_movesOperand (o : MvnReg) :
    (Instr.mvnReg o).MovesOperand o.s o.rd fun s => complement (operandReg o.rm o.type o.imm5 s) :=
  Instr.movesOperand_of_exec (fun _ => rfl) rfl (by simp [Instr.unpredictable]) fun _ => rfl

theorem mvnRsr_movesOperand (o : MvnRsr) :
    (Instr.mvnRsr o).MovesOperand o.s o.rd fun s => complement (operandRsr o.rm (decodeRegShift o.type) o.rs s) :=
  Instr.movesOperand_of_exec (fun _ => rfl) rfl (by simp [Instr.unpredictable, Bool.or_assoc]) fun _ => rfl

/-! ### MOVW and MOVT (R255, R256) -/

/-- The mask of a field. -/
theorem Machine.getLsbD_maskOf (lo n : Nat) {j : Nat} (hj : j < 32) :
    (maskOf lo n).getLsbD j = decide (lo ≤ j ∧ j < lo + n) := by
  by_cases hlo : lo ≤ j
  · have hiff : j - lo < n ↔ j < lo + n := Nat.sub_lt_iff_lt_add' hlo
    simp [maskOf, place, hj, hlo, hiff]
  · simp [maskOf, place, hj, hlo, Nat.lt_of_not_le hlo]

/-- Each bit of a word with a field replaced. -/
theorem Machine.getLsbD_putSlice {n : Nat} (x : Word) (lo : Nat) (v : BitVec n) {j : Nat} (hj : j < 32) :
    (putSlice x lo v).getLsbD j = if lo ≤ j ∧ j < lo + n then v.getLsbD (j - lo) else x.getLsbD j := by
  rw [putSlice, getLsbD_merge _ _ _ _ hj, getLsbD_maskOf lo n hj]
  by_cases hlo : lo ≤ j
  · simp [place, hj, hlo, Nat.not_lt.mpr hlo]
  · simp [hlo]

/-- R256: the word that MOVT writes. -/
theorem Machine.putSlice_high (x : Word) (v : BitVec 16) : putSlice x 16 v = v ++ x.setWidth 16 := by
  ext j hj
  rw [← BitVec.getLsbD_eq_getElem, ← BitVec.getLsbD_eq_getElem, getLsbD_putSlice _ _ _ hj, BitVec.getLsbD_append]
  by_cases h : j < 16
  · simp [h]
  · simp [h, hj]

theorem exec_movw {o : MovwOp} {s : State} (hr : (Instr.movw o).runs s) :
    exec (.movw o) s = .next (s.setReg o.rd ((o.imm4 ++ o.imm12).setWidth 32)).advance := by
  have hend := Instr.exec_of_runs (body := fun s => .done (s.setReg o.rd (zext (o.imm4 ++ o.imm12)))) hr rfl
    (by simp [Instr.unpredictable]) rfl
  exact hend.trans (congrArg Host.Outcome.next (s.commit_setReg_starting _ _))

theorem exec_movt {o : MovwOp} {s : State} (hr : (Instr.movt o).runs s) :
    exec (.movt o) s = .next (s.setReg o.rd ((o.imm4 ++ o.imm12) ++ (s.reg o.rd).setWidth 16)).advance := by
  have hend := Instr.exec_of_runs (body := fun s => .done (s.setReg o.rd (putSlice (s.reg o.rd) 16 (o.imm4 ++ o.imm12)))) hr
    rfl (by simp [Instr.unpredictable]) rfl
  rw [← putSlice_high]
  exact hend.trans (congrArg Host.Outcome.next (s.commit_setReg_starting _ _))

/-! ### The statements -/

/-- Settles O42: each move ends as `WriteDP` of its operand. -/
theorem moveAndShiftResults : Obligations.MoveAndShiftResults :=
  ⟨fun o => ⟨(movImm_movesOperand o).moves, (mvnImm_movesOperand o).moves⟩,
    fun o => ⟨(movReg_movesOperand o).moves, (rrx_movesOperand o).moves⟩,
    fun o => ⟨(lslImm_movesOperand o).moves, (lsrImm_movesOperand o).moves, (asrImm_movesOperand o).moves,
      fun h => (rorImm_movesOperand o h).moves⟩,
    fun o =>
      have ⟨hlsl, hlsr, hasr, hror⟩ := shiftReg_movesOperand o
      ⟨hlsl.moves, hlsr.moves, hasr.moves, hror.moves⟩,
    fun o => (mvnReg_movesOperand o).moves,
    fun o => (mvnRsr_movesOperand o).moves,
    fun _ _ => ⟨exec_movw, exec_movt⟩⟩

/-- Settles O43: `WriteDP` with S = 0 and Rd = 15 branches. -/
theorem dataProcessingBranches : Obligations.DataProcessingBranches :=
  ⟨fun op f => (op.writesDp f).branchesTo,
    fun o hs hd => ⟨(movImm_movesOperand o).branchesTo hs hd, (mvnImm_movesOperand o).branchesTo hs hd⟩,
    fun o hs hd => ⟨(movReg_movesOperand o).branchesTo hs hd, (rrx_movesOperand o).branchesTo hs hd⟩,
    fun o hs hd => ⟨(lslImm_movesOperand o).branchesTo hs hd, (lsrImm_movesOperand o).branchesTo hs hd,
      (asrImm_movesOperand o).branchesTo hs hd, fun h => (rorImm_movesOperand o h).branchesTo hs hd⟩,
    fun o => (mvnReg_movesOperand o).branchesTo⟩

/-! ### The examples of the rules -/

/-- R161: a word decodes to the well-formed instruction whose word it is. -/
theorem decode_of_encode {w : Word} {i : Instr} (hw : encode i = w) (hwf : i.wf = true) : decode w = i :=
  hw ▸ decodeOfEncodeIsTheInstruction i hwf

/-- Settles O3: each word is that of its well-formed instruction. -/
theorem sampleWordsDecode : Obligations.SampleWordsDecode :=
  ⟨decode_of_encode rfl rfl, decode_of_encode rfl rfl, decode_of_encode rfl rfl, decode_of_encode rfl rfl,
    decode_of_encode rfl rfl, decode_of_encode rfl rfl, decode_of_encode rfl rfl, decode_of_encode rfl rfl,
    decode_of_encode rfl rfl, decode_of_encode rfl rfl, decode_of_encode rfl rfl⟩

end Sys2Proof
end

section
/-! SUPPORT. O44 (spec/41_multiply.md): every multiply writes its result, as the rules compute it from integers, and then N and Z;
the result is the product, sum or difference of the words themselves. -/

namespace Sys2Proof

open Machine

namespace Machine

/-! ### The results (R280 to R286) -/

/-- The unsigned product, in as many bits as asked for. -/
theorem ofNat_toNat_mul (n : Nat) (x y : Word) :
    BitVec.ofNat n (x.toNat * y.toNat) = x.setWidth n * y.setWidth n := by
  rw [BitVec.ofNat_mul, BitVec.ofNat_toNat, BitVec.ofNat_toNat]

/-- The unsigned product with an accumulator of the width of the result. -/
theorem ofNat_toNat_mul_add {n : Nat} (x y : Word) (a : BitVec n) :
    BitVec.ofNat n (x.toNat * y.toNat + a.toNat) = x.setWidth n * y.setWidth n + a := by
  rw [BitVec.ofNat_add, ofNat_toNat_mul, BitVec.ofNat_toNat, BitVec.setWidth_eq]

/-- R282: the exact difference may be negative; its low 32 bits are the difference of the words. -/
theorem ofInt_sub_toNat_mul (a x y : Word) :
    BitVec.ofInt 32 ((a.toNat : Int) - x.toNat * y.toNat) = a - x * y := by
  rw [Int.sub_eq_add_neg, BitVec.ofInt_add, BitVec.ofInt_neg, ← Int.natCast_mul, BitVec.ofInt_natCast, BitVec.ofInt_natCast,
    ofNat_toNat_mul, BitVec.ofNat_toNat, BitVec.setWidth_eq, BitVec.setWidth_eq, BitVec.setWidth_eq, BitVec.sub_eq_add_neg]

/-- The signed product, in as many bits as asked for. -/
theorem ofInt_toInt_mul (n : Nat) (x y : Word) :
    BitVec.ofInt n (x.toInt * y.toInt) = x.signExtend n * y.signExtend n :=
  BitVec.ofInt_mul _ _

/-- The signed product with an accumulator of the width of the result. -/
theorem ofInt_toInt_mul_add {n : Nat} (x y : Word) (a : BitVec n) :
    BitVec.ofInt n (x.toInt * y.toInt + a.toInt) = x.signExtend n * y.signExtend n + a := by
  rw [BitVec.ofInt_add, ofInt_toInt_mul, BitVec.ofInt_toInt]

/-! ### The destination and the flags -/

/-- R36: the two ways to replace N and Z. -/
theorem setNZ_eq_withNZ (w : Word) (n z : Bool) : setNZ w n z = withNZ w n z := by
  have hflags : (placeBit n 31 ||| placeBit z 30) &&& 0xC0000000 =
      (if n then 0x80000000 else 0) ||| (if z then 0x40000000 else 0) := by
    revert n z
    decide
  rw [setNZ, merge, hflags, withNZ, BitVec.or_assoc]
  rfl

/-- R280 to R286: N and Z with S = 1, and no change of the flags with S = 0. -/
theorem State.mulFlags_eq (s : State) (sf n z : Bool) :
    s.mulFlags sf n z = { s with cpsr := if sf then withNZ s.cpsr n z else s.cpsr } := by
  rw [State.mulFlags, setNZ_eq_withNZ]
  cases sf <;> rfl

theorem State.setReg_starting (s : State) (i : Reg) (v : Word) : s.starting.setReg i v = (s.setReg i v).starting := by
  unfold State.setReg State.setRmode
  split <;> rfl

/-- R43, R280 to R286: the flags and the PC after the destination, which the flags do not depend on. -/
theorem State.commit_mulFlags_starting {s t : State} (ht : t.cpsr = s.cpsr) (sf n z : Bool) :
    (t.starting.mulFlags sf n z).commit =
      State.advance { t with cpsr := if sf then withNZ s.cpsr n z else s.cpsr } := by
  rw [State.mulFlags_eq, ← ht]
  rfl

/-- R280 to R282: the state after a 32-bit multiply. -/
def State.wroteMul (s : State) (rd : Reg) (sf : Bool) (v : Word) : State := State.advance
  { s.setReg rd v with cpsr := if sf then withNZ s.cpsr v.msb (v == 0) else s.cpsr }

/-- R283 to R286: the state after a 64-bit multiply. -/
def State.wroteMulLong (s : State) (rdHi rdLo : Reg) (sf : Bool) (v : BitVec 64) : State := State.advance
  { (s.setReg rdHi (v.extractLsb' 32 32)).setReg rdLo (v.extractLsb' 0 32) with
    cpsr := if sf then withNZ s.cpsr v.msb (v == 0) else s.cpsr }

theorem finish_mulWrite (rd : Reg) (sf : Bool) (v : Word) (s : State) :
    finish (mulWrite rd sf v s.starting) = .next (s.wroteMul rd sf v) := by
  rw [mulWrite, bit31_eq_msb, State.setReg_starting]
  exact congrArg _ (State.commit_mulFlags_starting (by simp) sf _ _)

theorem finish_mulLongWrite (rdHi rdLo : Reg) (sf : Bool) (v : BitVec 64) (s : State) :
    finish (mulLongWrite rdHi rdLo sf v s.starting) = .next (s.wroteMulLong rdHi rdLo sf v) := by
  have hmsb : v.getLsbD 63 = v.msb := (BitVec.msb_eq_getLsbD_last v).symm
  rw [mulLongWrite, hmsb, State.setReg_starting, State.setReg_starting]
  exact congrArg _ (State.commit_mulFlags_starting (by simp) sf _ _)

end Machine

/-! ### The instructions -/

section Multiply

variable {i : Instr} {cond : Cond} {cases : List (Bool × Unpred)} {sf : Bool} {s : State}

/-- R280 to R282: an instruction that runs and whose body writes a 32-bit result. -/
theorem Instr.exec_of_mulWrite {rd : Reg} {result : State → Word} (hr : i.runs s) (hcond : i.condition = some cond)
    (hexec : exec i s = runInstr cond cases s fun s => mulWrite rd sf (result s) s)
    (hunpred : i.unpredictable = cases.any Prod.fst) :
    exec i s = .next (s.wroteMul rd sf (result s.starting)) :=
  (Instr.exec_of_runs hr hcond hunpred hexec).trans (finish_mulWrite rd sf _ s)

/-- R283 to R286: a long multiply that runs; its cases are the same for the four, whatever rule they report. -/
theorem Instr.exec_of_mulLongWrite {rule : Nat} {o : MulLongOp} {result : State → BitVec 64} (hr : i.runs s)
    (hcond : i.condition = some o.cond) (hunpred : i.unpredictable = (Instr.umull o).unpredictable)
    (hexec : exec i s = runInstr o.cond (mulLongCases rule o) s fun s => mulLongWrite o.rdHi o.rdLo o.s (result s) s) :
    exec i s = .next (s.wroteMulLong o.rdHi o.rdLo o.s (result s.starting)) := by
  have hcases : i.unpredictable = (mulLongCases rule o).any Prod.fst := by
    rw [hunpred]
    simp [Instr.unpredictable, Bool.or_assoc]
  exact (Instr.exec_of_runs hr hcond hcases hexec).trans (finish_mulLongWrite o.rdHi o.rdLo o.s _ s)

end Multiply

section Results

variable {s : State}

theorem exec_mul {o : MulOp} (hr : (Instr.mul o).runs s) :
    exec (.mul o) s = .next (s.wroteMul o.rd o.s (s.reg o.rn * s.reg o.rm)) := by
  have hend := Instr.exec_of_mulWrite hr rfl (by dsimp only [exec]; rfl) (by simp [Instr.unpredictable, Bool.or_assoc])
  rw [hend, ofNat_toNat_mul, BitVec.setWidth_eq, BitVec.setWidth_eq]
  rfl

theorem exec_mla {o : MlaOp} (hr : (Instr.mla o).runs s) :
    exec (.mla o) s = .next (s.wroteMul o.rd o.s (s.reg o.rn * s.reg o.rm + s.reg o.ra)) := by
  have hend := Instr.exec_of_mulWrite hr rfl (by dsimp only [exec]; rfl) (by simp [Instr.unpredictable, Bool.or_assoc])
  rw [hend, ofNat_toNat_mul_add, BitVec.setWidth_eq, BitVec.setWidth_eq]
  rfl

theorem exec_mls {o : MlsOp} (hr : (Instr.mls o).runs s) :
    exec (.mls o) s = .next (s.wroteMul o.rd false (s.reg o.ra - s.reg o.rn * s.reg o.rm)) := by
  have hend := Instr.exec_of_mulWrite hr rfl (by dsimp only [exec]; rfl) (by simp [Instr.unpredictable, Bool.or_assoc])
  rw [hend, ofInt_sub_toNat_mul]
  rfl

variable {o : MulLongOp}

theorem exec_umull (hr : (Instr.umull o).runs s) : exec (.umull o) s = .next (s.wroteMulLong o.rdHi o.rdLo o.s
    ((s.reg o.rn).setWidth 64 * (s.reg o.rm).setWidth 64)) := by
  have hend := Instr.exec_of_mulLongWrite hr rfl rfl (by dsimp only [exec]; rfl)
  rw [hend, ofNat_toNat_mul]
  rfl

theorem exec_umlal (hr : (Instr.umlal o).runs s) : exec (.umlal o) s = .next (s.wroteMulLong o.rdHi o.rdLo o.s
    ((s.reg o.rn).setWidth 64 * (s.reg o.rm).setWidth 64 + s.regPair o.rdHi o.rdLo)) := by
  have hend := Instr.exec_of_mulLongWrite hr rfl rfl (by dsimp only [exec]; rfl)
  rw [hend, ofNat_toNat_mul_add]
  rfl

theorem exec_smull (hr : (Instr.smull o).runs s) : exec (.smull o) s = .next (s.wroteMulLong o.rdHi o.rdLo o.s
    ((s.reg o.rn).signExtend 64 * (s.reg o.rm).signExtend 64)) := by
  have hend := Instr.exec_of_mulLongWrite hr rfl rfl (by dsimp only [exec]; rfl)
  rw [hend, ofInt_toInt_mul]
  rfl

theorem exec_smlal (hr : (Instr.smlal o).runs s) : exec (.smlal o) s = .next (s.wroteMulLong o.rdHi o.rdLo o.s
    ((s.reg o.rn).signExtend 64 * (s.reg o.rm).signExtend 64 + s.regPair o.rdHi o.rdLo)) := by
  have hend := Instr.exec_of_mulLongWrite hr rfl rfl (by dsimp only [exec]; rfl)
  rw [hend, ofInt_toInt_mul_add]
  rfl

end Results

/-- Settles O44: each multiply by its body's write of the result that its rule computes. -/
theorem multiplyResults : Obligations.MultiplyResults :=
  ⟨fun _ => ⟨fun _ => exec_mul, fun _ => exec_mla, fun _ => exec_mls⟩,
    fun _ _ => ⟨exec_umull, exec_umlal, exec_smull, exec_smlal⟩⟩

end Sys2Proof
end

section
/-! SUPPORT. O45 and O46 (spec/42_media.md): the extends, the bitfield instructions, CLZ and the reversals. Each writes one
register and nothing else (`Instr.exec_of_setReg`); what is left is the value that its rule computes. -/

namespace Sys2Proof

open Machine

namespace Machine

/-! ### Rotation and extension (R305 to R316) -/

/-- R8: the rotation of the rules is that of the words. -/
theorem ror_eq_rotateRight (x : Word) (n : Nat) : ror x n = x.rotateRight n := by
  have hn : n % 32 < 32 := Nat.mod_lt n (by decide)
  rw [ror, BitVec.rotateRight, BitVec.rotateRightAux]
  by_cases h : n % 32 = 0
  · simp [h]
  · have hback : (32 - n % 32) % 32 = 32 - n % 32 := Nat.mod_eq_of_lt (by omega)
    rw [hback]

/-- R311, R312, R314, R315: a zero-extended low field is the word under the mask of the field. -/
theorem zext_slice_zero (v : Word) (n : Nat) : zext (slice v 0 n) = v &&& maskOf 0 n := by
  rw [← place_slice, place, BitVec.shiftLeft_zero, zext]

/-- R313: two zero-extended bytes are the word under their masks. -/
theorem zextBytes_eq (v : Word) : zextBytes v = v &&& 0x00FF00FF := by
  have happend : zextBytes v = place (slice v 16 8) 16 ||| place (slice v 0 8) 0 := by
    have hlanes := BitVec.setWidth_append_eq_shiftLeft_setWidth_or (w'' := 32) (b := (slice v 16 8).setWidth 16)
      (b' := (slice v 0 8).setWidth 16)
    have hbyte (b : Byte) : (b.setWidth 16).setWidth 32 = b.setWidth 32 := by simp
    rw [hbyte, hbyte] at hlanes
    rw [place, place, BitVec.shiftLeft_zero]
    exact (BitVec.setWidth_eq _).symm.trans hlanes
  rw [happend, place_slice, place_slice, ← BitVec.and_or_distrib_left]
  rfl

/-- R310, R316: the sum of a word with two halfwords, lane by lane. -/
theorem addHalves_append (x : Word) (hi lo : BitVec 16) :
    addHalves x (hi ++ lo) = (slice x 16 16 + hi) ++ (slice x 0 16 + lo) := by
  have hhi : slice (hi ++ lo) 16 16 = hi := BitVec.extractLsb'_append_eq_left
  have hlo : slice (hi ++ lo) 0 16 = lo := BitVec.extractLsb'_append_eq_right
  rw [addHalves, hhi, hlo]

/-! ### Bits of the bitfield instructions (R301 to R304) -/

theorem getLsbD_slice (x : Word) (lo n j : Nat) : (slice x lo n).getLsbD j = (decide (j < n) && x.getLsbD (lo + j)) :=
  BitVec.getLsbD_extractLsb' lo n x j

/-- R301: beyond the top bit of the field, its sign. -/
theorem getLsbD_sext_slice (x : Word) (lo m : Nat) {j : Nat} (hj : j < 32) :
    (sext (slice x lo (m + 1))).getLsbD j = x.getLsbD (lo + min j m) := by
  rw [sext, BitVec.getLsbD_signExtend, decide_eq_true hj, Bool.true_and]
  split
  · have hmin : min j m = j := by omega
    rw [getLsbD_slice, decide_eq_true ‹_›, Bool.true_and, hmin]
  · have hmin : min j m = m := by omega
    rw [BitVec.msb_eq_getLsbD_last, Nat.add_sub_cancel, getLsbD_slice, decide_eq_true m.lt_succ_self, Bool.true_and, hmin]

/-- R302: beyond the top bit of the field, zeros. -/
theorem getLsbD_zext_slice (x : Word) (lo m : Nat) {j : Nat} (hj : j < 32) :
    (zext (slice x lo (m + 1))).getLsbD j = (decide (j ≤ m) && x.getLsbD (lo + j)) := by
  rw [zext, BitVec.getLsbD_setWidth, decide_eq_true hj, Bool.true_and, getLsbD_slice]
  simp only [Nat.lt_succ_iff]

/-- R303, R304: the field of a bitfield write, from its first to its last bit. -/
theorem getLsbD_putSlice_through {lo hi : Nat} (h : lo ≤ hi) (x : Word) (v : BitVec (hi - lo + 1)) {j : Nat} (hj : j < 32) :
    (putSlice x lo v).getLsbD j = if lo ≤ j ∧ j ≤ hi then v.getLsbD (j - lo) else x.getLsbD j := by
  have hfield : (lo ≤ j ∧ j < lo + (hi - lo + 1)) ↔ (lo ≤ j ∧ j ≤ hi) := by omega
  rw [getLsbD_putSlice x lo v hj]
  simp only [hfield]

/-! ### Leading zeros (R300) -/

theorem leadingZeros_le (x : Word) (n : Nat) : leadingZeros x n ≤ n := by
  induction n with
  | zero => exact Nat.le_refl 0
  | succ n ih =>
    rw [leadingZeros]
    split <;> omega

/-- The leading zeros among the low `n` bits are zeros. -/
theorem getLsbD_of_leadingZeros (x : Word) {n j : Nat} (hj : n - leadingZeros x n ≤ j) (hjn : j < n) :
    x.getLsbD j = false := by
  induction n with
  | zero => omega
  | succ n ih =>
    rw [leadingZeros] at hj
    split at hj
    · omega
    · rcases Nat.lt_succ_iff_lt_or_eq.mp hjn with hlt | rfl
      · exact ih (by omega) hlt
      · exact Bool.eq_false_of_not_eq_true ‹_›

/-- Below the leading zeros among the low `n` bits stands a one. -/
theorem getLsbD_below_leadingZeros (x : Word) {n : Nat} (h : leadingZeros x n < n) :
    x.getLsbD (n - 1 - leadingZeros x n) = true := by
  induction n with
  | zero => omega
  | succ n ih =>
    rw [leadingZeros] at h ⊢
    split at h
    · rwa [if_pos ‹_›]
    · have hbelow : n + 1 - 1 - (leadingZeros x n + 1) = n - 1 - leadingZeros x n := by omega
      rw [if_neg ‹_›, hbelow]
      exact ih (by omega)

/-! ### Reversed bytes (R317 to R319) -/

/-- R103: the order in which the parts of a word are joined does not matter. -/
theorem or_reverse (a b c d : Word) : a ||| b ||| c ||| d = d ||| c ||| b ||| a := by
  ac_rfl

/-- R103: the bytes of a word, written from the highest down. -/
theorem wordOfBytes_eq_append (b0 b1 b2 b3 : Byte) : wordOfBytes b0 b1 b2 b3 = b3 ++ b2 ++ b1 ++ b0 := by
  have happend : (b3 ++ b2 ++ b1 ++ b0).setWidth 32 = place b3 24 ||| place b2 16 ||| place b1 8 ||| b0.setWidth 32 :=
    BitVec.setWidth_append_append_append_eq_shiftLeft_setWidth_or
  have hlow : place b0 0 = b0.setWidth 32 := BitVec.shiftLeft_zero _
  rw [wordOfBytes, or_reverse, hlow, ← happend]
  exact BitVec.setWidth_eq _

end Machine

/-! ### An instruction that writes one register -/

section Writes

variable {i : Instr} {cond : Cond} {cases : List (Bool × Unpred)} {rd : Reg} {s : State}

/-- R43: an instruction that runs and whose body writes one register changes that register and the PC. -/
theorem Instr.exec_of_setReg {result : State → Word} (hr : i.runs s) (hcond : i.condition = some cond)
    (hunpred : i.unpredictable = cases.any Prod.fst)
    (hexec : exec i s = runInstr cond cases s fun s => .done (s.setReg rd (result s))) :
    exec i s = .next (s.setReg rd (result s.starting)).advance :=
  (Instr.exec_of_runs hr hcond hunpred hexec).trans (congrArg Host.Outcome.next (s.commit_setReg_starting rd _))

/-- R305 to R307, R311 to R313: an extend writes the extension `ext` of the rotated register. -/
theorem Instr.exec_of_extend {o : ExtendOp} {rule : Nat} (ext : Word → Word) (hr : i.runs s)
    (hcond : i.condition = some o.cond) (hunpred : i.unpredictable = (Instr.sxtb o).unpredictable)
    (hexec : exec i s = runInstr o.cond [sbz o.sbz9_8, (anyPc [o.rd, o.rm], .rule rule)] s fun s =>
      .done (s.setReg o.rd (ext (s.rotated o.rm o.rotate)))) :
    exec i s = .next (s.setReg o.rd (ext ((s.reg o.rm).rotateRight (8 * o.rotate.toNat)))).advance := by
  have hend := Instr.exec_of_setReg hr hcond (hunpred.trans (by simp [Instr.unpredictable, Bool.or_assoc])) hexec
  rw [hend, State.rotated, ror_eq_rotateRight]
  rfl

/-- R308 to R310, R314 to R316: an extend that adds writes `sum` of the register and the rotated register. -/
theorem Instr.exec_of_extendAdd {o : ExtendAddOp} {rule : Nat} (sum : Word → Word → Word) (hr : i.runs s)
    (hcond : i.condition = some o.cond) (hunpred : i.unpredictable = (Instr.sxtab o).unpredictable)
    (hexec : exec i s = runInstr o.cond [sbz o.sbz9_8, (anyPc [o.rd, o.rm], .rule rule)] s fun s =>
      .done (s.setReg o.rd (sum (s.reg o.rn) (s.rotated o.rm o.rotate)))) :
    exec i s = .next (s.setReg o.rd (sum (s.reg o.rn) ((s.reg o.rm).rotateRight (8 * o.rotate.toNat)))).advance := by
  have hend := Instr.exec_of_setReg hr hcond (hunpred.trans (by simp [Instr.unpredictable, Bool.or_assoc])) hexec
  rw [hend, State.rotated, ror_eq_rotateRight]
  rfl

/-- R301, R302: a bitfield extract writes the extension `ext` of the field. -/
theorem Instr.exec_of_bfx {o : BfxOp} {rule : Nat} (ext : BitVec (o.widthm1.toNat + 1) → Word) (hr : i.runs s)
    (hcond : i.condition = some o.cond) (hunpred : i.unpredictable = (Instr.sbfx o).unpredictable)
    (hexec : exec i s = runInstr o.cond (bfxCases rule o) s fun s =>
      .done (s.setReg o.rd (ext (slice (s.reg o.rn) o.lsb.toNat (o.widthm1.toNat + 1))))) :
    exec i s = .next (s.setReg o.rd (ext (slice (s.reg o.rn) o.lsb.toNat (o.widthm1.toNat + 1)))).advance := by
  have hcases : i.unpredictable = (bfxCases rule o).any Prod.fst := by
    rw [hunpred]
    simp [Instr.unpredictable, bfxCases, Bool.or_assoc, Nat.succ_le_iff]
  exact Instr.exec_of_setReg hr hcond hcases hexec

/-- R303, R304: a bitfield write replaces the bits from `lsb` to `msb` of its destination. -/
theorem Instr.exec_of_bitfieldWrite {rule : Nat} {lsb msb : BitVec 5} (field : State → BitVec (msb.toNat - lsb.toNat + 1))
    (hr : i.runs s) (hcond : i.condition = some cond)
    (hunpred : i.unpredictable = (rd == pcReg || decide (msb.toNat < lsb.toNat)))
    (hexec : exec i s = runInstr cond [(rd == pcReg, .rule rule), (decide (msb.toNat < lsb.toNat), .rule rule)] s fun s =>
      .done (s.setReg rd (putSlice (s.reg rd) lsb.toNat (field s)))) :
    ∃ v, exec i s = .next (s.setReg rd v).advance ∧ ∀ j, j < 32 → v.getLsbD j =
      if lsb.toNat ≤ j ∧ j ≤ msb.toNat then (field s.starting).getLsbD (j - lsb.toNat) else (s.reg rd).getLsbD j := by
  have hle : lsb.toNat ≤ msb.toNat := by
    obtain ⟨hu, -⟩ := hr
    obtain ⟨-, hlt⟩ := Bool.or_eq_false_iff.mp (hunpred ▸ hu)
    exact Nat.not_lt.mp (of_decide_eq_false hlt)
  have hcases : i.unpredictable = List.any [(rd == pcReg, Unpred.rule rule), (decide (msb.toNat < lsb.toNat), .rule rule)]
      Prod.fst := by
    simp [hunpred]
  exact ⟨_, Instr.exec_of_setReg hr hcond hcases hexec, fun j hj => getLsbD_putSlice_through hle _ _ hj⟩

/-- R300, R317 to R319: CLZ and the reversals write a function of the register. -/
theorem Instr.exec_of_unary {o : UnaryOp} {rule : Nat} (f : Word → Word) (hr : i.runs s)
    (hcond : i.condition = some o.cond) (hunpred : i.unpredictable = (Instr.clz o).unpredictable)
    (hexec : exec i s = runInstr o.cond [sbo o.sbo19_16, sbo o.sbo11_8, (anyPc [o.rd, o.rm], .rule rule)] s fun s =>
      .done (s.setReg o.rd (f (s.reg o.rm)))) :
    exec i s = .next (s.setReg o.rd (f (s.reg o.rm))).advance :=
  Instr.exec_of_setReg hr hcond (hunpred.trans (by simp [Instr.unpredictable, Bool.or_assoc])) hexec

end Writes

/-! ### The statements -/

/-- Settles O45: each extend by the value that its body writes. -/
theorem extendResults : Obligations.ExtendResults := by
  intro s
  refine ⟨fun o => ⟨fun hr => ?sxtb, fun hr => ?sxth, fun hr => ?uxtb, fun hr => ?uxth, fun hr => ?sxtb16, fun hr => ?uxtb16⟩,
    fun o => ⟨fun hr => ?sxtab, fun hr => ?sxtah, fun hr => ?uxtab, fun hr => ?uxtah, fun hr => ?sxtab16, fun hr => ?uxtab16⟩⟩
  case sxtb => exact Instr.exec_of_extend sextByte hr rfl rfl rfl
  case sxth => exact Instr.exec_of_extend sextHalf hr rfl rfl rfl
  case uxtb =>
    have hend := Instr.exec_of_extend (fun v => zext (slice v 0 8)) hr rfl rfl rfl
    rwa [zext_slice_zero] at hend
  case uxth =>
    have hend := Instr.exec_of_extend (fun v => zext (slice v 0 16)) hr rfl rfl rfl
    rwa [zext_slice_zero] at hend
  case sxtb16 => exact Instr.exec_of_extend sextBytes hr rfl rfl rfl
  case uxtb16 =>
    rw [← zextBytes_eq]
    exact Instr.exec_of_extend zextBytes hr rfl rfl rfl
  case sxtab => exact Instr.exec_of_extendAdd (fun n v => n + sextByte v) hr rfl rfl rfl
  case sxtah => exact Instr.exec_of_extendAdd (fun n v => n + sextHalf v) hr rfl rfl rfl
  case uxtab =>
    have hend := Instr.exec_of_extendAdd (fun n v => n + zext (slice v 0 8)) hr rfl rfl rfl
    rwa [zext_slice_zero] at hend
  case uxtah =>
    have hend := Instr.exec_of_extendAdd (fun n v => n + zext (slice v 0 16)) hr rfl rfl rfl
    rwa [zext_slice_zero] at hend
  case sxtab16 =>
    have hend := Instr.exec_of_extendAdd (fun n v => addHalves n (sextBytes v)) hr rfl rfl rfl
    rwa [sextBytes, addHalves_append] at hend
  case uxtab16 =>
    have hend := Instr.exec_of_extendAdd (fun n v => addHalves n (zextBytes v)) hr rfl rfl rfl
    rwa [zextBytes, addHalves_append] at hend

/-- Settles O46: each instruction by the value that its body writes, and that value's bits. -/
theorem bitfieldCountAndReverseResults : Obligations.BitfieldCountAndReverseResults := by
  refine ⟨fun s => ⟨fun o => ⟨fun hr => ?sbfx, fun hr => ?ubfx⟩, fun o hr => ?bfi, fun o hr => ?bfc⟩,
    fun s o => ⟨fun hr => ?clz, fun hr => ?rev, fun hr => ?rev16, fun hr => ?revsh⟩⟩
  case sbfx => exact ⟨_, Instr.exec_of_bfx sext hr rfl rfl rfl, fun j hj => getLsbD_sext_slice _ _ _ hj⟩
  case ubfx => exact ⟨_, Instr.exec_of_bfx zext hr rfl rfl rfl, fun j hj => getLsbD_zext_slice _ _ _ hj⟩
  case bfi =>
    obtain ⟨v, hexec, hbits⟩ := Instr.exec_of_bitfieldWrite (rd := o.rd) (lsb := o.lsb) (msb := o.msb)
      (fun s => slice (s.reg o.rn) 0 _) hr rfl rfl rfl
    refine ⟨v, hexec, fun j hj => (hbits j hj).trans (ite_congr rfl (fun hfield => ?_) fun _ => rfl)⟩
    have hin : j - o.lsb.toNat < o.msb.toNat - o.lsb.toNat + 1 := by omega
    rw [getLsbD_slice, decide_eq_true hin, Bool.true_and, Nat.zero_add]
    rfl
  case bfc =>
    obtain ⟨v, hexec, hbits⟩ := Instr.exec_of_bitfieldWrite (rd := o.rd) (lsb := o.lsb) (msb := o.msb)
      (fun _ => 0) hr rfl rfl rfl
    exact ⟨v, hexec, fun j hj => (hbits j hj).trans (ite_congr rfl (fun _ => BitVec.getLsbD_zero) fun _ => rfl)⟩
  case clz =>
    refine ⟨_, leadingZeros_le _ 32, Instr.exec_of_unary (fun x => BitVec.ofNat 32 (countLeadingZeroBits x)) hr rfl rfl rfl,
      fun j hj => ?_, getLsbD_below_leadingZeros _⟩
    by_cases hj32 : j < 32
    · exact getLsbD_of_leadingZeros _ hj hj32
    · exact BitVec.getLsbD_of_ge _ j (Nat.not_lt.mp hj32)
  case rev =>
    rw [← wordOfBytes_eq_append]
    exact Instr.exec_of_unary revWord hr rfl rfl rfl
  case rev16 =>
    rw [← wordOfBytes_eq_append]
    exact Instr.exec_of_unary revHalves hr rfl rfl rfl
  case revsh => exact Instr.exec_of_unary revSigned hr rfl rfl rfl

end Sys2Proof
end

section
/-! SUPPORT. O47 and O48 (spec/43_load_store.md): the loads of one register. Before them, what the accesses of a body answer in a
state that differs in registers alone, and the addressing of a load or store as the statements write it. -/

namespace Sys2Proof.Machine

/-! ### Accesses of a body, whatever the registers hold

An access depends on no register and on no pending PC write: it answers the same where these differ. -/

/-- The state with other registers and no PC write pending. -/
def State.withCells (c : Vector Word 32) (s : State) : State := { s with cells := c, pendingBranch := none }

theorem State.withCells_cpsr (c : Vector Word 32) (s : State) : (s.withCells c).cpsr = s.cpsr := rfl

theorem State.withCells_checkUnaligned (c : Vector Word 32) (s : State) :
    (s.withCells c).checkUnaligned = s.checkUnaligned := rfl

theorem State.withCells_translate (c : Vector Word 32) (s : State) (va : Word) (acc : Access) :
    (s.withCells c).translate va acc = s.translate va acc := rfl

/-- The result with other registers and no PC write pending in the state it leaves. -/
def Res.withCells {α : Type} (c : Vector Word 32) : Res α → Res α
  | .ok a s => .ok a (s.withCells c)
  | .exc e s => .exc e (s.withCells c)
  | .halt f => .halt f

section WithCells

variable {c : Vector Word 32}

theorem translateThen_withCells {α : Type} {va : Word} {acc : Access} {s : State} {k k' : Word → Res α}
    (hk : ∀ pa, k' pa = (k pa).withCells c) :
    translateThen va acc (s.withCells c) k' = (translateThen va acc s k).withCells c := by
  simp only [translateThen, State.withCells_translate]
  split
  · exact hk _
  · rfl
  · rfl

theorem readSplit_withCells (acc : Access) (s : State) : ∀ (n : Nat) (va : Word),
    readSplit va acc (s.withCells c) n = (readSplit va acc s n).withCells c
  | 0, _ => rfl
  | n + 1, va => by
    refine translateThen_withCells fun pa => ?_
    rw [readSplit_withCells acc s n (va + 1)]
    cases readSplit (va + 1) acc s n <;> rfl

theorem memRead_withCells (va : Word) (w : Width) (acc : Access) (s : State) :
    memRead va w acc (s.withCells c) = (memRead va w acc s).withCells c := by
  have whole : readWhole va w acc (s.withCells c) = (readWhole va w acc s).withCells c :=
    translateThen_withCells fun _ => rfl
  unfold memRead
  rw [whole, readSplit_withCells, State.withCells_cpsr, State.withCells_checkUnaligned]
  split_ifs <;> rfl

theorem writeSplit_withCells (acc : Access) : ∀ (n : Nat) (va v : Word) (s : State),
    writeSplit va acc v (s.withCells c) n = (writeSplit va acc v s n).withCells c
  | 0, _, _, _ => rfl
  | n + 1, va, v, s =>
    translateThen_withCells fun pa => writeSplit_withCells acc n (va + 1) (v >>> 8) (s.physWrite pa .byte v)

theorem memWrite_withCells (va : Word) (w : Width) (v : Word) (acc : Access) (s : State) :
    memWrite va w v acc (s.withCells c) = (memWrite va w v acc s).withCells c := by
  have whole : writeWhole va w v acc (s.withCells c) = (writeWhole va w v acc s).withCells c :=
    translateThen_withCells fun _ => rfl
  unfold memWrite
  rw [whole, writeSplit_withCells, State.withCells_cpsr, State.withCells_checkUnaligned]
  split_ifs <;> rfl

end WithCells

/-- R107: what a read answers, it answers to the body of the instruction. -/
theorem memRead_starting_of {va : Word} {w : Width} {acc : Access} {s : State} {r : Res Word}
    (h : memRead va w acc s = r) : memRead va w acc s.starting = r.starting :=
  (memRead_starting va w acc s).trans (congrArg Res.starting h)

section Read

variable {va : Word} {w : Width} {acc : Access} {s : State} {k : Word → State → Res Unit}

/-- R341, R342: a body whose read aborts takes the abort, from the state before the instruction. -/
theorem finish_memRead_abort {dfar : Word} {status : FaultStatus} {write : Bool}
    (h : memRead va w acc s = .exc (.dataAbort dfar status write) s) :
    finish ((memRead va w acc s.starting).andThen k) =
      takeException .dataAbort (s.pc + 8) (s.setMemoryAbort dfar status write) := by
  rw [memRead_starting_of h]
  exact finish_dataAbort dfar status write s

/-- R102, R113: a body whose read halts does so. -/
theorem finish_memRead_halt {f : Fault} (h : memRead va w acc s = .halt f) :
    finish ((memRead va w acc s.starting).andThen k) = .fault f := by
  rw [memRead_starting_of h]
  rfl

end Read

/-- R527, R41: a word-aligned address has its two low bits clear. -/
theorem low_bits_of_aligned {x : Word} (h : x.extractLsb' 0 2 = 0) : x.getLsbD 0 = false ∧ x.getLsbD 1 = false := by
  have hbit (i : Nat) (hi : i < 2) : x.getLsbD i = false := by
    have := congrArg (BitVec.getLsbD · i) h
    simpa [hi] using this
  exact ⟨hbit 0 (by decide), hbit 1 (by decide)⟩

/-! ### Addressing (R340, R345) -/

/-- R340: the addressing of the model that a form of the statements stands for. -/
def AddrForm.addressing (a : AddrForm) (s : State) : Addressing := Machine.addressing a.p a.u a.w a.rn (a.offset s) s

/-- R601: the offset is made of registers and flags, which a pending PC write does not change. -/
def AddrForm.Settled (a : AddrForm) : Prop := ∀ s : State, a.offset s.starting = a.offset s

theorem AddrForm.addressing_eq (a : AddrForm) (s : State) :
    a.addressing s = { address := a.address s, offsetAddr := a.offsetAddr s, wback := !a.p || a.w } := rfl

theorem AddrForm.Settled.addressing {a : AddrForm} (ha : a.Settled) (s : State) :
    a.addressing s.starting = a.addressing s :=
  congrArg (fun off => Machine.addressing a.p a.u a.w a.rn off s) (ha s)

theorem State.writeBack_addressing (a : AddrForm) (s t : State) : t.writeBack (a.addressing s) a.rn = a.back s t := rfl

theorem AddrForm.back_starting (a : AddrForm) (s t : State) : a.back s t.starting = (a.back s t).starting := by
  unfold AddrForm.back
  split
  · exact t.setReg_starting _ _
  · rfl

/-- R187: the two ways to put the halves of an offset together. -/
theorem splitOffset_eq (imm4H imm4L : BitVec 4) : splitOffset imm4H imm4L = fun _ => offsetSplit imm4H imm4L := by
  have hplaces : ∀ hi lo : BitVec 4, (hi ++ lo).setWidth 32 = offsetSplit hi lo := by decide
  exact funext fun _ => hplaces imm4H imm4L

/-- R8, R362, R363: the two ways to extend a loaded byte or halfword. -/
theorem signedByte_eq : signedByte = sextByte := by
  funext v
  simp [signedByte, sextByte, slice, sext, BitVec.setWidth_eq_extractLsb']

theorem signedHalf_eq : signedHalf = sextHalf := by
  funext v
  simp [signedHalf, sextHalf, slice, sext, BitVec.setWidth_eq_extractLsb']

end Sys2Proof.Machine

namespace Sys2Proof

open Machine

/-! ### The end of an instruction that runs -/

/-- R13: the instruction, neither UNPREDICTABLE nor with a failed condition, ends as the body does. -/
def Instr.EndsAs (i : Instr) (body : State → Res Unit) : Prop := ∀ s : State, i.runs s → exec i s = finish (body s.starting)

theorem Instr.endsAs {i : Instr} {cond : Cond} {cases : List (Bool × Unpred)} {body : State → Res Unit}
    (hcond : i.condition = some cond) (hexec : ∀ s, exec i s = runInstr cond cases s body)
    (hunpred : i.unpredictable = cases.any Prod.fst) : i.EndsAs body :=
  fun s hr => Instr.exec_of_runs hr hcond hunpred (hexec s)

/-! ### Loads of one register -/

section Loads

variable {i : Instr} {w : Width} {u sp : Bool} {ext : Word → Word} {a : AddrForm} {rn rt : Reg} {s : State}

theorem finish_loadBody_ok {data : Word} (hread : memRead (a.address s) w (readAccess u sp) s = .ok data s) :
    finish (loadBody w u sp ext (a.addressing s) a.rn rt s.starting) =
      .next (State.advance ((a.back s s).setReg rt (ext data))) := by
  rw [loadBody, AddrForm.addressing_eq, memRead_starting_of hread, ← AddrForm.addressing_eq]
  simp only [Res.starting, Res.andThen, State.writeBack_addressing, AddrForm.back_starting, State.setReg_starting]
  rfl

/-- R341: an instruction that ends as the load of a register other than the PC. -/
theorem loadsRegister_of_exec (h : ∀ s, i.runs s → rt ≠ pcReg →
    exec i s = finish (loadBody w u sp ext (a.addressing s) a.rn rt s.starting)) :
    LoadsRegister i w (readAccess u sp) ext a rt := by
  intro s hr hrt
  rw [h s hr hrt]
  exact ⟨fun _ => finish_loadBody_ok, fun _ _ _ => finish_memRead_abort, fun _ => finish_memRead_halt⟩

theorem Instr.EndsAs.loadsRegister (h : i.EndsAs fun s => loadBody w u sp ext (a.addressing s) a.rn rt s)
    (ha : a.Settled) : LoadsRegister i w (readAccess u sp) ext a rt :=
  loadsRegister_of_exec fun s hr _ => ha.addressing s ▸ h s hr

/-- R350: LDR is such a load where its destination is not the PC. -/
theorem Instr.EndsAs.loadsWord (h : i.EndsAs fun s => loadWordBody (a.addressing s) a.rn rt s) (ha : a.Settled) :
    LoadsRegister i .word (readAccess false true) id a rt := by
  refine loadsRegister_of_exec fun s hr hrt => ?_
  simp only [h s hr, ha.addressing s, loadWordBody, if_neg hrt]
  rfl

end Loads

theorem ldrImm_endsAs (o : LsImm) : (Instr.ldrImm o).EndsAs fun s =>
    loadWordBody (AddrForm.addressing { p := o.p, u := o.u, w := o.w, rn := o.rn, offset := plainOffset o.imm12 } s)
      o.rn o.rt s := by
  refine Instr.endsAs rfl (fun s => rfl) ?_
  simp [Instr.unpredictable]

theorem ldrReg_endsAs (o : LsReg) : (Instr.ldrReg o).EndsAs fun s =>
    loadWordBody (AddrForm.addressing
      { p := o.p, u := o.u, w := o.w, rn := o.rn, offset := shiftedOffset o.rm o.type o.imm5 } s) o.rn o.rt s := by
  refine Instr.endsAs rfl (fun s => rfl) ?_
  simp [Instr.unpredictable]

/-- Settles O47: each load by its body, whose end its read decides. -/
theorem loadResults : Obligations.LoadResults := by
  unfold Obligations.LoadResults
  simp only [splitOffset_eq, signedByte_eq, signedHalf_eq]
  refine ⟨fun o => ⟨?ldr, ?ldrb⟩, fun o => ⟨?ldrReg, ?ldrbReg⟩, fun o => ⟨?ldrh, ?ldrsb, ?ldrsh⟩,
    fun o => ⟨?ldrhReg, ?ldrsbReg, ?ldrshReg⟩, fun o => ⟨?ldrt, ?ldrbt⟩, fun o => ⟨?ldrtReg, ?ldrbtReg⟩,
    fun o => ⟨?ldrht, ?ldrsbt, ?ldrsht⟩, fun o => ⟨?ldrhtReg, ?ldrsbtReg, ?ldrshtReg⟩⟩
  case ldr => exact (ldrImm_endsAs o).loadsWord fun _ => rfl
  case ldrReg => exact (ldrReg_endsAs o).loadsWord fun _ => rfl
  all_goals
    refine Instr.EndsAs.loadsRegister (Instr.endsAs rfl (fun s => rfl) ?_) fun _ => rfl
    simp [Instr.unpredictable, Bool.or_assoc]

/-! ### LDR into the PC -/

/-- R41, R42: how a branch to a loaded word ends. -/
theorem Machine.finish_loadWritePC (data : Word) (s : State) : finish (loadWritePC data s.starting) =
    if data.getLsbD 0 then .fault (.notImplemented .thumb)
    else if data.getLsbD 1 then .fault (.unpredictable (.rule 41))
    else .next { s with pc := data, pendingBranch := none } :=
  finish_writeDP_pc data false false s

section LoadPc

variable {i : Instr} {a : AddrForm} {s : State}

/-- R343: a read that answers is branched to, after the write-back, if its address was aligned. -/
theorem finish_loadWordBody_pc {data : Word} (hread : memRead (a.address s) .word (readAccess false true) s = .ok data s) :
    finish (loadWordBody (a.addressing s) a.rn pcReg s.starting) =
      if (a.address s).extractLsb' 0 2 = 0 then finish (loadWritePC data (a.back s s).starting)
      else .fault (.unpredictable (.rule 343)) := by
  rw [loadWordBody, AddrForm.addressing_eq, memRead_starting_of hread, ← AddrForm.addressing_eq]
  simp only [Res.starting, Res.andThen, State.writeBack_addressing, AddrForm.back_starting, if_true, apply_ite finish]
  rfl

end LoadPc

/-- Settles O48: both forms of LDR end as one body, whose end its read, its address and the loaded word decide. -/
theorem loadIntoThePcBranches : Obligations.LoadIntoThePcBranches := by
  intro i a s hi hr
  have hend : exec i s = finish (loadWordBody (a.addressing s) a.rn pcReg s.starting) := by
    obtain ⟨o, rfl, hrt, rfl⟩ | ⟨o, rfl, hrt, rfl⟩ := hi
    · exact hrt ▸ ldrImm_endsAs o s hr
    · exact hrt ▸ ldrReg_endsAs o s hr
  rw [hend]
  refine ⟨fun data hread => ?_, fun _ _ _ => finish_memRead_abort, fun _ => finish_memRead_halt⟩
  rw [finish_loadWordBody_pc hread, finish_loadWritePC]
  refine ⟨fun halign => if_neg halign, fun halign h0 => ?thumb, fun halign h0 h1 => ?unaligned, fun halign htarget => ?branch⟩
  case thumb => rw [if_pos halign, if_pos h0]
  case unaligned => simp only [if_pos halign, h0, h1, if_true, Bool.false_eq_true, if_false]
  case branch =>
    obtain ⟨h0, h1⟩ := low_bits_of_aligned htarget
    simp only [if_pos halign, h0, h1, Bool.false_eq_true, if_false]

end Sys2Proof
end

section
/-! SUPPORT. O49 and O50 (spec/43_load_store.md): the stores of one register, and LDRD and STRD. Before them, which bytes of memory a
write leaves as they were. -/

namespace Sys2Proof.Machine

/-! ### Bytes that a write leaves -/

/-- A write to one address leaves every other alone, whatever the form of the list. -/
theorem readCells_writeCells_ne {a x : Nat} (hx : x ≠ a) (b : Byte) : ∀ l : List Host.Cell,
    readCells (writeCells l a b) x = readCells l x
  | [] => by
    unfold writeCells
    split <;> simp [readCells, hx.symm]
  | (k, c) :: rest => by
    have ih := readCells_writeCells_ne hx b rest
    unfold writeCells
    split_ifs with hlt hb heq hb
    · rfl
    · simp [readCells, hx.symm]
    · simp [readCells, ← heq, hx.symm]
    · simp [readCells, ← heq, hx.symm]
    · simp [readCells, ih]

theorem Memory.read_write_ne {m : Memory} {pa x : Word} (hx : x ≠ pa) (b : Byte) : (m.write pa b).read x = m.read x :=
  readCells_writeCells_ne (fun h => hx (BitVec.eq_of_toNat_eq h)) b m.cells

/-- R107, R108: a split write leaves the bytes to which none of its own translations leads. -/
theorem writeSplit_frame {acc : Access} {b : Word} : ∀ {n : Nat} {va v : Word} {s t : State},
    writeSplit va acc v s n = .ok () t →
    (∀ k u, k < n → writeSplit va acc v s k = .ok () u → u.translate (va + BitVec.ofNat 32 k) acc ≠ .pa b) →
    t.mem.read b = s.mem.read b
  | 0, _, _, _, _, h, _ => by
    cases h
    rfl
  | n + 1, va, v, s, t, h, hother => by
    cases hpa : s.translate va acc with
    | abort e => cases (translateThen_abort hpa _).symm.trans h
    | halt f => cases (translateThen_halt hpa _).symm.trans h
    | pa a =>
      have hstep (k : Nat) : writeSplit va acc v s (k + 1) =
          writeSplit (va + 1) acc (v >>> 8) (s.physWrite a .byte v) k := translateThen_pa hpa _
      have hne : b ≠ a := by
        rintro rfl
        exact hother 0 s n.succ_pos rfl (by rwa [BitVec.add_zero])
      have hrest : t.mem.read b = (s.physWrite a .byte v).mem.read b := by
        refine writeSplit_frame ((hstep n).symm.trans h) fun k u hk hu => ?_
        rw [add_one_add_ofNat]
        exact hother (k + 1) u (Nat.succ_lt_succ hk) ((hstep k).trans hu)
      exact hrest.trans (Memory.read_write_ne hne _)

section Access

variable {va pa : Word} {w : Width} {acc : Access} {s : State}

/-- R107: so does a write that is not made at one address: its address is misaligned and it is of the split class. -/
theorem memWrite_frame {v : Word} {t : State} (hd : acc.fetch = false) (h : memWrite va w v acc s = .ok () t) :
    w.bytes ∣ va.toNat ∨ acc.split = false ∨
      ∀ b : Word, (∀ k u, k < w.bytes → writeSplit va acc v s k = .ok () u →
        u.translate (va + BitVec.ofNat 32 k) acc ≠ .pa b) → t.mem.read b = s.mem.read b := by
  by_cases halign : w.bytes ∣ va.toNat
  · exact .inl halign
  · cases hsplit : acc.split with
    | false => exact .inr (.inl rfl)
    | true =>
      have hE : psrE s.cpsr = false := by
        by_contra hE
        rw [memWrite_bigEndian hd (eq_true_of_ne_false hE)] at h
        cases h
      rw [memWrite_split (.inr hE) (fun h0 => halign (Nat.dvd_of_mod_eq_zero h0)) hsplit] at h
      exact .inr (.inr fun b => writeSplit_frame h)

/-- R107: a write that reaches one physical address stores there, whole or byte by byte. -/
theorem State.reaches.memWrite_eq (h : s.reaches va w acc pa) (v : Word) :
    memWrite va w v acc s = .ok () { s with mem := s.mem.writeBytes pa w.bytes v } := by
  obtain ⟨hE, ⟨hwhole, hpa⟩ | ⟨hsplit, hmmu, rfl⟩⟩ := h
  · rw [memWrite_whole (.inr hE) hwhole, writeWhole, translateThen_pa hpa]
    rfl
  · by_cases halign : pa.toNat % w.bytes = 0
    · rw [memWrite_whole (.inr hE) (.inl halign), writeWhole, translateThen_pa (State.translate_of_mmu_off hmmu pa acc)]
      rfl
    · rw [memWrite_split (.inr hE) halign hsplit, writeSplit_of_mmu_off _ _ _ hmmu]

/-- R107, R108: the state in which a write ends, or is abandoned, differs in memory only. -/
theorem memWrite_exc_state {v : Word} {e : Exc} {t : State} (h : memWrite va w v acc s = .exc e t) :
    t = { s with mem := t.mem } := by
  obtain ⟨m, rfl, -⟩ : s.StoredFrom t := by simpa [h] using memWrite_leads va w v acc s
  rfl

theorem memWrite_ok_state {v : Word} {t : State} (h : memWrite va w v acc s = .ok () t) : t = { s with mem := t.mem } := by
  obtain ⟨m, rfl, -⟩ : s.StoredFrom t := by simpa [h] using memWrite_leads va w v acc s
  rfl

/-- R107: what a write answers, it answers to the body of the instruction. -/
theorem memWrite_starting_ok {v : Word} {m : Memory} (h : memWrite va w v acc s = .ok () { s with mem := m }) :
    memWrite va w v acc s.starting = .ok () (State.starting { s with mem := m }) :=
  (memWrite_withCells (c := s.cells) va w v acc s).trans (congrArg (Res.withCells s.cells) h)

theorem memWrite_starting_exc {v : Word} {e : Exc} {m : Memory} (h : memWrite va w v acc s = .exc e { s with mem := m }) :
    memWrite va w v acc s.starting = .exc e (State.starting { s with mem := m }) :=
  (memWrite_withCells (c := s.cells) va w v acc s).trans (congrArg (Res.withCells s.cells) h)

theorem memWrite_starting_halt {v : Word} {f : Fault} (h : memWrite va w v acc s = .halt f) :
    memWrite va w v acc s.starting = .halt f :=
  (memWrite_withCells (c := s.cells) va w v acc s).trans (congrArg (Res.withCells s.cells) h)

/-- R342, R108: a body whose write aborts takes the abort, with what the write had stored. -/
theorem finish_memWrite_abort {v dfar : Word} {status : FaultStatus} {write : Bool} {m : Memory}
    {k : Unit → State → Res Unit} (h : memWrite va w v acc s = .exc (.dataAbort dfar status write) { s with mem := m }) :
    finish ((memWrite va w v acc s.starting).andThen k) =
      takeException .dataAbort (s.pc + 8) (State.setMemoryAbort { s with mem := m } dfar status write) := by
  rw [memWrite_starting_exc h]
  exact finish_dataAbort dfar status write { s with mem := m }

theorem finish_memWrite_halt {v : Word} {f : Fault} {k : Unit → State → Res Unit} (h : memWrite va w v acc s = .halt f) :
    finish ((memWrite va w v acc s.starting).andThen k) = .fault f := by
  rw [memWrite_starting_halt h]
  rfl

end Access

/-! ### A register put back (R342) -/

theorem State.setReg_of_ne {i : Reg} (hi : i ≠ pcReg) (s : State) (v : Word) :
    s.setReg i v = { s with cells := s.cells.set (cellOf s.mode i) v } := if_neg hi

theorem State.setReg_self (s : State) (i : Reg) : s.setReg i (s.reg i) = s := by
  by_cases hi : i = pcReg
  · subst hi
    rfl
  · rw [State.setReg_of_ne hi, State.reg, if_neg hi, State.rmode, Vector.get_eq_getElem, Vector.set_getElem_self]

theorem State.setReg_setReg (s : State) (i : Reg) (v v' : Word) : (s.setReg i v).setReg i v' = s.setReg i v' := by
  by_cases hi : i = pcReg
  · subst hi
    rfl
  · simp only [State.setReg_of_ne hi, State.mode, Vector.set_set]

/-- A register write does not see the count of draws, nor a pending PC write. -/
theorem State.setReg_starting_draws (s : State) (n : Nat) (i : Reg) (v : Word) :
    State.setReg { s.starting with draws := n } i v = State.starting { s.setReg i v with draws := n } := by
  unfold State.setReg State.setRmode
  split <;> rfl

/-- R9: a register write leaves the other registers of the mode. -/
theorem State.reg_setReg_ne {i j : Reg} (hij : i ≠ j) (s : State) (v : Word) : (s.setReg i v).reg j = s.reg j := by
  by_cases hj : j = pcReg
  · simp [State.reg, hj]
  · by_cases hi : i = pcReg
    · subst hi
      rfl
    · have hcell : cellOf s.mode i ≠ cellOf s.mode j := fun h => hij ((cellOf_eq_iff hi hj).mp h).1
      rw [State.reg, if_neg hj, State.setReg_mode, State.setReg, State.rmode_setRmode _ _ _ _ _ _ hi, if_neg hcell,
        State.reg, if_neg hj]

/-- A written register and then the old value of the base: the write is undone exactly if it was of the base. -/
theorem State.setReg_restore (s : State) (i j : Reg) (v : Word) :
    (s.setReg i v).setReg j (s.reg j) = if i = j then s else s.setReg i v := by
  split_ifs with hij
  · rw [hij, State.setReg_setReg, State.setReg_self]
  · rw [← State.reg_setReg_ne hij s v, State.setReg_self]

end Sys2Proof.Machine

namespace Sys2Proof

open Machine

/-! ### Stores of one register -/

section Stores

variable {i : Instr} {w : Width} {u sp : Bool} {a : AddrForm} {rt : Reg} {s : State} {m : Memory}

/-- R344: the body of a store starts with the write of its register, r15 as PC + 8. -/
theorem storeBody_starting (s : State) : storeBody w u sp (a.addressing s) a.rn rt s.starting =
    (memWrite (a.address s) w (s.reg rt) (writeAccess u sp) s.starting).andThen fun _ t =>
      .done (t.writeBack (a.addressing s) a.rn) := rfl

theorem finish_storeBody_ok (h : memWrite (a.address s) w (s.reg rt) (writeAccess u sp) s = .ok () { s with mem := m }) :
    finish (storeBody w u sp (a.addressing s) a.rn rt s.starting) =
      .next (State.advance (a.back s { s with mem := m })) := by
  rw [storeBody_starting, memWrite_starting_ok h, Res.andThen, State.writeBack_addressing, AddrForm.back_starting]
  rfl

/-- R341, R107, R108: an instruction that ends as the store of a register. -/
theorem Instr.EndsAs.storesRegister (h : i.EndsAs fun s => storeBody w u sp (a.addressing s) a.rn rt s)
    (ha : a.Settled) : StoresRegister i w (writeAccess u sp) a rt := by
  intro s hr
  have hend : exec i s = finish (storeBody w u sp (a.addressing s) a.rn rt s.starting) := ha.addressing s ▸ h s hr
  rw [hend]
  refine ⟨fun t hwrite => ⟨?ok, memWrite_frame rfl hwrite⟩, fun pa hmem hreach => ?reaches,
    fun hsplit hE halign k σ hσ => ?split, fun va status write t hwrite => ?abort, fun f => finish_memWrite_halt⟩
  case ok => exact finish_storeBody_ok (hwrite.trans (congrArg _ (memWrite_ok_state hwrite)))
  case reaches =>
    exact ⟨_, finish_storeBody_ok (hreach.memWrite_eq _),
      Memory.stored_writeBytes w.bytes pa _ hmem (w.bytes_le_four.trans (by decide))⟩
  case split =>
    have hbytes := memWrite_split (w := w) (.inr hE) halign hsplit (s.reg rt)
    refine ⟨?_, fun hk va status write he => ?_, fun hk f hf => ?_⟩
    · rintro rfl
      exact finish_storeBody_ok (hbytes.trans (writeSplit_done hσ))
    · exact finish_memWrite_abort (hbytes.trans (writeSplit_abort hk hσ he))
    · exact finish_memWrite_halt (hbytes.trans (writeSplit_halt hk hσ hf))
  case abort => exact finish_memWrite_abort (hwrite.trans (congrArg _ (memWrite_exc_state hwrite)))

end Stores

/-- Settles O49: each store by its body, whose end its write decides. -/
theorem storeResults : Obligations.StoreResults := by
  unfold Obligations.StoreResults
  simp only [splitOffset_eq]
  refine ⟨fun o => ⟨?str, ?strb⟩, fun o => ⟨?strReg, ?strbReg⟩, fun o => ?strh, fun o => ?strhReg,
    fun o => ⟨?strt, ?strbt⟩, fun o => ⟨?strtReg, ?strbtReg⟩, fun o => ?strht, fun o => ?strhtReg⟩
  all_goals
    refine Instr.EndsAs.storesRegister (Instr.endsAs rfl (fun s => rfl) ?_) fun _ => rfl
    simp [Instr.unpredictable, Bool.or_assoc]

/-! ### LDRD (R368) -/

section LoadDual

variable {a : AddrForm} {rt : Reg} {s : State}

theorem finish_loadDualBody_ok {lo hi : Word}
    (hlo : memRead (a.address s) .word (readAccess false false) s = .ok lo s)
    (hhi : memRead (a.address s + 4) .word (readAccess false false) s = .ok hi s) :
    finish (loadDualBody (a.addressing s) a.rn rt s.starting) =
      .next (State.advance (((a.back s s).setReg rt lo).setReg (rt + 1) hi)) := by
  rw [loadDualBody, AddrForm.addressing_eq, memRead_starting_of hlo]
  simp only [Res.starting, Res.andThen, memRead_starting_of hhi]
  rw [← AddrForm.addressing_eq, State.writeBack_addressing, AddrForm.back_starting, State.setReg_starting,
    State.setReg_starting]
  rfl

/-- R342: an abort of the second read is taken with a drawn first destination, and the base as it was. -/
theorem finish_loadDualBody_abort_second {lo va : Word} {status : FaultStatus} {write : Bool}
    (hlo : memRead (a.address s) .word (readAccess false false) s = .ok lo s)
    (hhi : memRead (a.address s + 4) .word (readAccess false false) s = .exc (.dataAbort va status write) s) :
    finish (loadDualBody (a.addressing s) a.rn rt s.starting) =
      takeException .dataAbort (s.pc + 8) (State.setMemoryAbort
        { (if rt = a.rn then s else s.setReg rt (Config.freeWord s.draws)) with draws := s.draws + 1 } va status write) := by
  have hdrawn : (s.starting.drawReg s.mode rt).setReg a.rn (s.reg a.rn) = State.starting
      { (if rt = a.rn then s else s.setReg rt (Config.freeWord s.draws)) with draws := s.draws + 1 } := by
    have hdraw : s.starting.drawReg s.mode rt =
        { (s.setReg rt (Config.freeWord s.draws)).starting with draws := s.draws + 1 } :=
      congrArg (fun t : State => { t with draws := s.draws + 1 }) (s.setReg_starting rt (Config.freeWord s.draws))
    rw [hdraw, State.setReg_starting_draws, State.setReg_restore]
  rw [loadDualBody, AddrForm.addressing_eq, memRead_starting_of hlo]
  simp only [Res.starting, Res.andThen, memRead_starting_of hhi, keepBase]
  refine (congrArg (fun t => finish (.exc (.dataAbort va status write) t)) hdrawn).trans ?_
  rw [finish_dataAbort]
  congr 2
  split <;> simp

theorem finish_loadDualBody_halt_second {lo : Word} {f : Fault}
    (hlo : memRead (a.address s) .word (readAccess false false) s = .ok lo s)
    (hhi : memRead (a.address s + 4) .word (readAccess false false) s = .halt f) :
    finish (loadDualBody (a.addressing s) a.rn rt s.starting) = .fault f := by
  rw [loadDualBody, AddrForm.addressing_eq, memRead_starting_of hlo]
  simp only [Res.starting, Res.andThen, memRead_starting_of hhi]
  rfl

end LoadDual

theorem ldrdImm_endsAs (o : ExtraImm) : (Instr.ldrdImm o).EndsAs fun s =>
    loadDualBody (AddrForm.addressing
      { p := o.p, u := o.u, w := o.w, rn := o.rn, offset := splitOffset o.imm4H o.imm4L } s) o.rn o.rt s := by
  rw [splitOffset_eq]
  refine Instr.endsAs rfl (fun s => rfl) ?_
  simp [Instr.unpredictable, Bool.or_assoc]

theorem ldrdReg_endsAs (o : ExtraReg) : (Instr.ldrdReg o).EndsAs fun s =>
    loadDualBody (AddrForm.addressing { p := o.p, u := o.u, w := o.w, rn := o.rn, offset := fun s => s.reg o.rm } s)
      o.rn o.rt s := by
  refine Instr.endsAs rfl (fun s => rfl) ?_
  simp [Instr.unpredictable, Bool.or_assoc]

/-! ### STRD (R369) -/

section StoreDual

variable {a : AddrForm} {rt : Reg} {s : State} {m m' : Memory} {va : Word} {status : FaultStatus} {write : Bool}
  {f : Fault}

/-- R369: after a first write that answers, the body goes on with the second word. -/
theorem storeDualBody_second
    (hlo : memWrite (a.address s) .word (s.reg rt) (writeAccess false false) s = .ok () { s with mem := m }) :
    storeDualBody (a.addressing s) a.rn rt s.starting =
      (memWrite (a.address s + 4) .word (s.reg (rt + 1)) (writeAccess false false)
        (State.starting { s with mem := m })).andThen fun _ t => .done (t.writeBack (a.addressing s) a.rn) :=
  congrArg (Res.andThen · _) (memWrite_starting_ok hlo)

theorem finish_storeDualBody_ok
    (hlo : memWrite (a.address s) .word (s.reg rt) (writeAccess false false) s = .ok () { s with mem := m })
    (hhi : memWrite (a.address s + 4) .word (s.reg (rt + 1)) (writeAccess false false) { s with mem := m }
      = .ok () { s with mem := m' }) :
    finish (storeDualBody (a.addressing s) a.rn rt s.starting) = .next (State.advance (a.back s { s with mem := m' })) := by
  rw [storeDualBody_second hlo, memWrite_starting_ok (s := { s with mem := m }) hhi, Res.andThen,
    State.writeBack_addressing, AddrForm.back_starting]
  rfl

/-- R342: an abort of the second write is taken with the first word stored. -/
theorem finish_storeDualBody_abort_second
    (hlo : memWrite (a.address s) .word (s.reg rt) (writeAccess false false) s = .ok () { s with mem := m })
    (hhi : memWrite (a.address s + 4) .word (s.reg (rt + 1)) (writeAccess false false) { s with mem := m }
      = .exc (.dataAbort va status write) { s with mem := m }) :
    finish (storeDualBody (a.addressing s) a.rn rt s.starting) =
      takeException .dataAbort (s.pc + 8) (State.setMemoryAbort { s with mem := m } va status write) := by
  rw [storeDualBody_second hlo]
  exact finish_memWrite_abort (s := { s with mem := m }) hhi

theorem finish_storeDualBody_halt_second
    (hlo : memWrite (a.address s) .word (s.reg rt) (writeAccess false false) s = .ok () { s with mem := m })
    (hhi : memWrite (a.address s + 4) .word (s.reg (rt + 1)) (writeAccess false false) { s with mem := m } = .halt f) :
    finish (storeDualBody (a.addressing s) a.rn rt s.starting) = .fault f := by
  rw [storeDualBody_second hlo]
  exact finish_memWrite_halt (s := { s with mem := m }) hhi

end StoreDual

theorem strdImm_endsAs (o : ExtraImm) : (Instr.strdImm o).EndsAs fun s =>
    storeDualBody (AddrForm.addressing
      { p := o.p, u := o.u, w := o.w, rn := o.rn, offset := splitOffset o.imm4H o.imm4L } s) o.rn o.rt s := by
  rw [splitOffset_eq]
  refine Instr.endsAs rfl (fun s => rfl) ?_
  simp [Instr.unpredictable, Bool.or_assoc]

theorem strdReg_endsAs (o : ExtraReg) : (Instr.strdReg o).EndsAs fun s =>
    storeDualBody (AddrForm.addressing { p := o.p, u := o.u, w := o.w, rn := o.rn, offset := fun s => s.reg o.rm } s)
      o.rn o.rt s := by
  refine Instr.endsAs rfl (fun s => rfl) ?_
  simp [Instr.unpredictable, Bool.or_assoc]

/-! ### The statement -/

/-- Settles O50: the immediate and the register form end as one body, whose end its two accesses decide. -/
theorem dualTransferResults : Obligations.DualTransferResults := by
  intro a rt s at0 at1 rd wr
  refine ⟨fun i hi hr => ?ldrd, fun i hi hr => ?strd⟩
  case ldrd =>
    have hend : exec i s = finish (loadDualBody (a.addressing s) a.rn rt s.starting) := by
      obtain ⟨o, rfl, rfl, rfl⟩ | ⟨o, rfl, rfl, rfl⟩ := hi
      · exact ldrdImm_endsAs o s hr
      · exact ldrdReg_endsAs o s hr
    rw [hend]
    exact ⟨fun _ _ => finish_loadDualBody_ok, fun _ _ _ => finish_memRead_abort,
      fun _ _ _ _ hlo hhi => ⟨_, _, finish_loadDualBody_abort_second hlo hhi⟩,
      fun _ => finish_memRead_halt, fun _ _ => finish_loadDualBody_halt_second⟩
  case strd =>
    have hend : exec i s = finish (storeDualBody (a.addressing s) a.rn rt s.starting) := by
      obtain ⟨o, rfl, rfl, rfl⟩ | ⟨o, rfl, rfl, rfl⟩ := hi
      · exact strdImm_endsAs o s hr
      · exact strdReg_endsAs o s hr
    rw [hend]
    refine ⟨fun pa hmem hreach => ?_, fun _ _ _ => finish_memWrite_abort, fun _ => finish_memWrite_halt⟩
    have hlo := hreach.memWrite_eq (s.reg rt)
    refine ⟨s.mem.writeBytes pa 4 (s.reg rt), Memory.stored_writeBytes 4 pa _ hmem (by decide), fun pb hreach' => ?_,
      fun _ _ _ hhi => finish_storeDualBody_abort_second hlo hhi, fun _ hhi => finish_storeDualBody_halt_second hlo hhi⟩
    exact ⟨_, finish_storeDualBody_ok hlo (hreach'.memWrite_eq (s.reg (rt + 1))),
      Memory.stored_writeBytes 4 pb _ (Memory.writeBytes_wf 4 pa _ hmem) (by decide)⟩

end Sys2Proof
end

section
/-! SUPPORT. O54 (spec/44_branch_block.md): an aborted load of several registers. The load loop up to the word that aborts, then what
the entry of the abort makes of the registers. -/

namespace Sys2Proof.Machine

/-! ### One cell -/

/-- R9, R31: a register write changes one cell, that of its register, unless it is r15. -/
theorem State.exists_setRmode_eq (s : State) (m : Mode) (i : Reg) (v : Word) : ∃ c, s.setRmode m i v = { s with cells := c } ∧
    ∀ x, (i ≠ pcReg → cellOf m i ≠ x) → c.get x = s.cells.get x := by
  by_cases hi : i = pcReg
  · subst hi
    exact ⟨s.cells, rfl, fun _ _ => rfl⟩
  · refine ⟨_, if_neg hi, fun x hx => ?_⟩
    simp only [Vector.get_eq_getElem, Vector.getElem_set, Fin.val_inj, if_neg (hx hi)]

/-- What a load of several registers has made of the state when it aborts: other registers, and drawn values. -/
def State.withDrawn (c : Vector Word 32) (n : Nat) (s : State) : State := { s.withCells c with draws := n }

theorem State.exists_setRmode_withCells (s : State) (c : Vector Word 32) (m : Mode) (i : Reg) (v : Word) :
    ∃ c', (s.withCells c).setRmode m i v = s.withCells c' ∧
      ∀ x, (i ≠ pcReg → cellOf m i ≠ x) → c'.get x = c.get x :=
  (s.withCells c).exists_setRmode_eq m i v

theorem State.exists_drawReg_withDrawn (s : State) (c : Vector Word 32) (n : Nat) (m : Mode) (i : Reg) :
    ∃ c', (s.withDrawn c n).drawReg m i = s.withDrawn c' (n + 1) ∧
      ∀ x, (i ≠ pcReg → cellOf m i ≠ x) → c'.get x = c.get x := by
  obtain ⟨c', hset, hget⟩ := (s.withDrawn c n).exists_setRmode_eq m i (Config.freeWord n)
  exact ⟨c', congrArg (fun t : State => { t with draws := n + 1 }) hset, hget⟩

/-! ### The words of a block (R410) -/

theorem wordAt_zero (a : Word) : wordAt a 0 = a := by simp [wordAt]

theorem wordAt_succ (a : Word) (k : Nat) : wordAt (a + 4) k = wordAt a (k + 1) := by
  rw [wordAt, wordAt, Nat.add_comm k, BitVec.ofNat_add, mul_add, ← add_assoc]
  rfl

theorem blockStart_eq (p u : Bool) (base : Word) (count : Nat) : blockStart p u base count = blockFrom p u base count := by
  have hbytes : blockBytes count = 4 * BitVec.ofNat 32 count := BitVec.ofNat_mul 4 count
  cases p <;> cases u <;> simp only [blockStart, blockFrom, hbytes]

/-- R410: the registers of a list are those that it names. -/
theorem getLsbD_of_mem_registerList {n : Nat} (hn : n ≤ 16) {x : BitVec n} {r : Reg} (h : r ∈ registerList x) :
    x.getLsbD r.toNat = true := by
  obtain ⟨j, hj, rfl⟩ := List.mem_map.mp h
  obtain ⟨hrange, hbit⟩ := List.mem_filter.mp hj
  have hlt : j < 2 ^ 4 := Nat.lt_of_lt_of_le (List.mem_range.mp hrange) hn
  rwa [BitVec.toNat_ofNat, Nat.mod_eq_of_lt hlt]

theorem length_registerList {n : Nat} (x : BitVec n) : (registerList x).length = listCount x := List.length_map ..

/-- R411: the registers below r15, and then the PC. -/
theorem listCount_eq (x : BitVec 16) :
    listCount x = (registerList (x.setWidth 15)).length + if x.getLsbD 15 then 1 else 0 := by
  have hlow : (List.range 15).filter (fun i => (x.setWidth 15).getLsbD i) = (List.range 15).filter fun i => x.getLsbD i :=
    List.filter_congr fun i hi => by simp [List.mem_range.mp hi]
  rw [length_registerList, listCount, listCount, hlow, List.range_succ, List.filter_append, List.length_append]
  cases h : x.getLsbD 15 <;> simp only [List.filter_cons, List.filter_nil, h] <;> rfl

/-! ### The load loop up to an abort -/

section LoadAbort

variable {s : State} {e : Exc} {m : Mode} {K : Word → State → Res Unit}

/-- R411, R342: word `k` of the loop aborts after the earlier ones were read: the loop, whatever the registers hold, aborts so,
and has changed only registers of its list. -/
theorem loadList_abort : ∀ {rs : List Reg} {a : Word} {k : Nat} (c : Vector Word 32),
    k ≤ rs.length → (∀ j < k, ∃ v, blockRead (wordAt a j) s = .ok v s) → blockRead (wordAt a k) s = .exc e s →
    (k = rs.length → ∀ c, K (wordAt a k) (s.withCells c) = .exc e (s.withCells c)) →
    ∃ c' n, loadList m K rs a (s.withCells c) = .exc e (s.withDrawn c' n) ∧
      ∀ x, (∀ r ∈ rs, r ≠ pcReg → cellOf m r ≠ x) → c'.get x = c.get x
  | [], a, k, c, hk, _, _, hK => by
    obtain rfl : k = 0 := Nat.le_zero.mp hk
    refine ⟨c, s.draws, ?_, fun _ _ => rfl⟩
    have hend := hK rfl c
    rwa [wordAt_zero] at hend
  | r :: rs, a, 0, c, _, _, he, _ => by
    refine ⟨c, s.draws, ?_, fun _ _ => rfl⟩
    rw [wordAt_zero] at he
    have hread : blockRead a (s.withCells c) = .exc e (s.withCells c) :=
      (memRead_withCells a .word _ s).trans (congrArg (Res.withCells c) he)
    rw [loadList, hread]
    rfl
  | r :: rs, a, k + 1, c, hk, hok, he, hK => by
    obtain ⟨v, hv⟩ := hok 0 k.succ_pos
    rw [wordAt_zero] at hv
    have hread : blockRead a (s.withCells c) = .ok v (s.withCells c) :=
      (memRead_withCells a .word _ s).trans (congrArg (Res.withCells c) hv)
    obtain ⟨c₁, hset, hset_get⟩ := s.exists_setRmode_withCells c m r v
    obtain ⟨c₂, n, hrest, hrest_get⟩ := loadList_abort (rs := rs) (a := a + 4) (k := k) c₁ (Nat.le_of_succ_le_succ hk)
      (fun j hj => wordAt_succ a j ▸ hok (j + 1) (Nat.succ_lt_succ hj)) (wordAt_succ a k ▸ he)
      (fun hlen => wordAt_succ a k ▸ hK (congrArg Nat.succ hlen))
    obtain ⟨c₃, hdraw, hdraw_get⟩ := s.exists_drawReg_withDrawn c₂ n m r
    refine ⟨c₃, n + 1, ?_, fun x hx => ?_⟩
    · have hloop : loadList m K rs (a + 4) ((s.withCells c).setRmode m r v) = .exc e (s.withDrawn c₂ n) :=
        hset ▸ hrest
      rw [loadList, hread]
      simp only [Res.andThen, hloop]
      rw [hdraw]
    · have hr := hx r List.mem_cons_self
      rw [hdraw_get x hr, hrest_get x fun r' hr' => hx r' (List.mem_cons_of_mem r hr'), hset_get x hr]

/-- R342: and with the base put back, which the abort leaves as it was even where the list names it. -/
theorem keepBase_loadList_abort {rs : List Reg} {a : Word} {k : Nat} {rn : Reg} (hrn : rn ≠ pcReg)
    (hk : k ≤ rs.length) (hok : ∀ j < k, ∃ v, blockRead (wordAt a j) s = .ok v s) (he : blockRead (wordAt a k) s = .exc e s)
    (hK : k = rs.length → ∀ c, K (wordAt a k) (s.withCells c) = .exc e (s.withCells c)) :
    ∃ c n, keepBase rn s.starting (loadList m K rs a s.starting) = .exc e (s.withDrawn c n) ∧
      ∀ x, (x ≠ cellOf s.mode rn → ∀ r ∈ rs, r ≠ pcReg → cellOf m r ≠ x) → c.get x = s.cells.get x := by
  obtain ⟨c, n, hloop, hget⟩ := loadList_abort (m := m) s.cells hk hok he hK
  refine ⟨c.set (cellOf s.mode rn) (s.reg rn), n, ?_, fun x hx => ?_⟩
  · rw [show s.starting = s.withCells s.cells from rfl, hloop]
    exact congrArg (Res.exc e) (State.setReg_of_ne hrn _ _)
  · by_cases hbase : x = cellOf s.mode rn
    · subst hbase
      rw [State.reg, if_neg hrn, State.rmode]
      simp [Vector.get_eq_getElem]
    · rw [← hget x (hx hbase)]
      simp only [Vector.get_eq_getElem, Vector.getElem_set, Fin.val_inj, if_neg (Ne.symm hbase)]

end LoadAbort

/-! ### The entry of the abort -/

/-- R521, R532: what a data abort from `u`, which differs from `s` in registers and drawn values, makes of the state. -/
theorem finish_dataAbort_withCells (s : State) (c : Vector Word 32) (n : Nat) (va : Word) (status : FaultStatus) (write : Bool) :
    finish (.exc (.dataAbort va status write) (s.withDrawn c n)) =
      takeException .dataAbort (s.pc + 8) (State.setMemoryAbort { s with cells := c, draws := n } va status write) := rfl

theorem loadAbortKeepsTheRest_of_exec {n : Nat} {i : Instr} {s : State} {m : Mode} {registers : BitVec n} {rn : Reg}
    {start : Word} {count : Nat} {rs : List Reg} {K : Word → State → Res Unit} (hrn : rn ≠ pcReg)
    (hexec : exec i s = finish (keepBase rn s.starting (loadList m K rs start s.starting)))
    (hmem : ∀ r ∈ rs, registers.getLsbD r.toNat = true) (hcount : count ≤ rs.length + 1)
    (hK : rs.length < count → ∀ a e, blockRead a s = .exc e s → ∀ c, K a (s.withCells c) = .exc e (s.withCells c)) :
    LoadAbortKeepsTheRest i s m registers rn start count := by
  intro k value va status write hk hvalue habort
  obtain ⟨c, d, hloop, hget⟩ := keepBase_loadList_abort (m := m) (K := K) (rs := rs) hrn (by omega)
    (fun j hj => ⟨value j, hvalue j hj⟩) habort fun hlen => hK (hlen ▸ hk) _ _ habort
  rw [hexec, hloop, finish_dataAbort_withCells]
  refine ⟨fun hte => if_pos hte, fun hte => ⟨_, if_neg (by simpa [bit] using hte), ?_⟩⟩
  obtain ⟨c', hset, hset_get⟩ := State.exists_setRmode_eq
    (State.setMemoryAbort { s with cells := c, draws := d } va status write) .abt lrReg (s.pc + 8)
  refine ⟨State.enter_mem _ _ _, State.enter_cp15 _ _ _, rfl, rfl, rfl, ?lr, fun x hx hlisted => ?cells⟩
  case lr => exact (State.rmode_setRmode _ .abt .abt lrReg 14 _ (by decide)).trans (if_pos rfl)
  case cells =>
    rw [State.enter_cells]
    refine (congrArg (fun t : State => t.cells.get x) hset).trans ?_
    rw [hset_get x fun _ => Ne.symm hx]
    exact hget x fun hbase r hr hpc => hlisted hbase r hpc (hmem r hr)

/-- R410: a read of the block that aborts abandons what follows it, whatever the registers hold. -/
theorem blockRead_andThen_abort {a : Word} {e : Exc} {s : State} (h : blockRead a s = .exc e s) (c : Vector Word 32)
    (k : Word → State → Res Unit) : (blockRead a (s.withCells c)).andThen k = .exc e (s.withCells c) :=
  congrArg (Res.andThen · k) ((memRead_withCells a .word _ s).trans (congrArg (Res.withCells c) h))

end Sys2Proof.Machine

namespace Sys2Proof

open Machine

/-! ### The three kinds of LDM -/

/-- R411: of LDM the PC, if its list has it, is the word after those of the registers. -/
theorem Instr.EndsAs.ldm_abort {i : Instr} {p u w : Bool} {rn : Reg} {registers : BitVec 16} {s : State}
    (h : i.EndsAs (ldmBody p u w rn registers)) (hr : i.runs s) (hrn : rn ≠ pcReg) :
    LoadAbortKeepsTheRest i s s.mode registers rn (blockFrom p u (s.reg rn) (listCount registers)) (listCount registers) := by
  rw [← blockStart_eq]
  refine loadAbortKeepsTheRest_of_exec hrn (h s hr) (fun r hmem => ?listed) ?length fun hpc a e he c => ?pc
  case listed =>
    have hbit := getLsbD_of_mem_registerList (by decide) hmem
    rw [BitVec.getLsbD_setWidth, Bool.and_eq_true] at hbit
    obtain ⟨-, hlisted⟩ := hbit
    exact hlisted
  case length =>
    rw [listCount_eq]
    split <;> omega
  case pc =>
    have h15 : registers.getLsbD 15 = true := by
      by_contra h15
      rw [listCount_eq, if_neg h15] at hpc
      omega
    exact (if_pos h15).trans (blockRead_andThen_abort he c _)

/-- R421: of LDM (exception return) the PC is always the last word. -/
theorem ldmExcReturn_abort {o : LdmExcOp} {s : State} (hr : (Instr.ldmExcReturn o).runs s) (husr : s.mode ≠ .usr)
    (hsys : s.mode ≠ .sys) :
    LoadAbortKeepsTheRest (.ldmExcReturn o) s s.mode o.registers o.rn
      (blockFrom o.p o.u (s.reg o.rn) (listCount o.registers + 1)) (listCount o.registers + 1) := by
  have hrn : o.rn ≠ pcReg := by
    obtain ⟨hu, -⟩ := hr
    intro hpc
    simp [Instr.unpredictable, hpc] at hu
  have hmode : ¬ s.starting.usrOrSys = true := by simpa [State.usrOrSys] using ⟨husr, hsys⟩
  have hend : (Instr.ldmExcReturn o).EndsAs (ldmExcBody o) :=
    Instr.endsAs rfl (fun s => rfl) (by simp [Instr.unpredictable])
  rw [← blockStart_eq]
  refine loadAbortKeepsTheRest_of_exec hrn ((hend s hr).trans (congrArg finish (if_neg hmode)))
    (fun r => getLsbD_of_mem_registerList (by decide)) ?_ fun _ a e he c => blockRead_andThen_abort he c _
  rw [length_registerList]

/-- R422: the list of LDM (user registers) has no PC. -/
theorem ldmUser_abort {o : LdmUserOp} {s : State} (hr : (Instr.ldmUser o).runs s) (husr : s.mode ≠ .usr)
    (hsys : s.mode ≠ .sys) :
    LoadAbortKeepsTheRest (.ldmUser o) s .usr o.registers o.rn
      (blockFrom o.p o.u (s.reg o.rn) (listCount o.registers)) (listCount o.registers) := by
  have hrn : o.rn ≠ pcReg := by
    obtain ⟨hu, -⟩ := hr
    intro hpc
    simp [Instr.unpredictable, hpc] at hu
  have hmode : ¬ s.starting.usrOrSys = true := by simpa [State.usrOrSys] using ⟨husr, hsys⟩
  have hend : (Instr.ldmUser o).EndsAs (ldmUserBody o) :=
    Instr.endsAs rfl (fun s => rfl) (by simp [Instr.unpredictable, Bool.or_assoc])
  rw [← blockStart_eq]
  refine loadAbortKeepsTheRest_of_exec hrn ((hend s hr).trans (congrArg finish (if_neg hmode)))
    (fun r => getLsbD_of_mem_registerList (by decide)) ?_ fun hlen => absurd hlen ?_
  all_goals
    rw [length_registerList]
    omega

/-- R410, R411: the four addressing modes of LDM end as one body, from a base that is not r15. -/
theorem ldm_endsAs {o : BlockOp} {p u : Bool} {i : Instr}
    (hi : (i = .ldm o ∧ p = false ∧ u = true) ∨ (i = .ldmda o ∧ p = false ∧ u = false) ∨
      (i = .ldmdb o ∧ p = true ∧ u = false) ∨ (i = .ldmib o ∧ p = true ∧ u = true)) :
    i.EndsAs (ldmBody p u o.w o.rn o.registers) ∧ i.unpredictable = (Instr.ldm o).unpredictable := by
  obtain ⟨rfl, rfl, rfl⟩ | ⟨rfl, rfl, rfl⟩ | ⟨rfl, rfl, rfl⟩ | ⟨rfl, rfl, rfl⟩ := hi
  all_goals
    refine ⟨Instr.endsAs rfl (fun s => rfl) ?_, rfl⟩
    simp [Instr.unpredictable, Bool.or_assoc]

/-- Settles O54: each kind of LDM by its load loop, which aborts at the word whose read does. -/
theorem abortedLoadMultipleKeepsItsBase : Obligations.AbortedLoadMultipleKeepsItsBase := by
  refine ⟨fun o p u i s hi hr => ?_, fun o s => ldmExcReturn_abort, fun o s => ldmUser_abort⟩
  obtain ⟨hend, hunpred⟩ := ldm_endsAs hi
  refine hend.ldm_abort hr ?_
  obtain ⟨hu, -⟩ := hr
  intro hpc
  rw [hunpred] at hu
  simp [Instr.unpredictable, hpc] at hu

end Sys2Proof
end

section
/-! SUPPORT. O58 (spec/44_branch_block.md): the branches. An interworking branch is `WriteDP` of its target with S = 0 and Rd = 15,
so BX and BXJ end as the data-processing branches do. -/

namespace Sys2Proof

open Machine

/-- R187: the two ways to extend the immediate of a branch by two zero bits. -/
theorem Machine.branchOffset_eq (imm24 : BitVec 24) : branchOffset imm24 = imm24.signExtend 32 <<< 2 := by
  ext j hj
  simp only [branchOffset, sext, BitVec.getElem_signExtend, BitVec.getElem_shiftLeft, BitVec.msb_append]
  grind

/-- R402, R404: BX and BXJ are branches to the value of their register. -/
theorem branchesTo_of_exec {i : Instr} {rm : Reg} (h : i.EndsAs fun s => bxWritePC (s.reg rm) s) :
    BranchesTo i fun s => s.reg rm := by
  have hdp : i.WritesDp false pcReg (fun s => s.reg rm) (fun _ => false) fun _ => false := h
  exact hdp.branchesTo rfl rfl

theorem bx_endsAs (o : BxOp) : (Instr.bx o).EndsAs fun s => bxWritePC (s.reg o.rm) s :=
  Instr.endsAs rfl (fun _ => rfl) (by simp [Instr.unpredictable])

theorem bxj_endsAs (o : BxOp) : (Instr.bxj o).EndsAs fun s => bxWritePC (s.reg o.rm) s :=
  Instr.endsAs rfl (fun _ => rfl) (by simp [Instr.unpredictable])

/-- R403: BLX reads its target before it writes LR (log entry 27). -/
theorem blxReg_endsAs (o : BxOp) :
    (Instr.blxReg o).EndsAs fun s => loadWritePC (s.reg o.rm) (s.setReg lrReg (s.pc + 4)) :=
  Instr.endsAs rfl (fun _ => rfl) (by simp [Instr.unpredictable])

theorem b_endsAs (o : BranchOp) :
    (Instr.b o).EndsAs fun s => .done (s.branchWritePC (s.reg pcReg + branchOffset o.imm24)) :=
  Instr.endsAs (cases := []) rfl (fun _ => rfl) rfl

theorem bl_endsAs (o : BranchOp) : (Instr.bl o).EndsAs fun s =>
    .done ((s.setReg lrReg (s.pc + 4)).branchWritePC (s.reg pcReg + branchOffset o.imm24)) :=
  Instr.endsAs (cases := []) rfl (fun _ => rfl) rfl

/-- Settles O58: the direct branches by their offset, the others by the register that they read before LR is written. -/
theorem branchResults : Obligations.BranchResults := by
  refine ⟨fun o s => ⟨fun hr => ?b, fun hr => ?bl⟩,
    fun o => ⟨branchesTo_of_exec (bx_endsAs o), branchesTo_of_exec (bxj_endsAs o)⟩, fun o s hr => ?blx⟩
  case b =>
    rw [b_endsAs o s hr, branchOffset_eq]
    rfl
  case bl =>
    rw [bl_endsAs o s hr, branchOffset_eq]
    rfl
  case blx =>
    rw [(blxReg_endsAs o s hr).trans (finish_loadWritePC (s.reg o.rm) (s.setReg lrReg (s.pc + 4)))]
    refine ⟨fun h0 => if_pos h0, fun h0 h1 => ?_, fun h0 h1 => ?_⟩
    · rw [h0, h1]
      rfl
    · rw [h0, h1]
      rfl

end Sys2Proof
end

section
/-! SUPPORT. O51 (spec/44_branch_block.md), O30 (spec/60_exceptions.md) and the loads of O53: the registers of a list by their rank,
the load loop over words that are read, and what an exception return ends in. -/

namespace Sys2Proof.Machine

/-! ### The registers of a list (R410) -/

section RegisterList

variable {n : Nat} {x : BitVec n} {r : Reg}

/-- R410: a listed register stands at its rank. -/
theorem getElem?_registerList (h : x.getLsbD r.toNat = true) : (registerList x)[listRank x r.toNat]? = some r := by
  obtain ⟨d, hd⟩ := Nat.exists_eq_add_of_lt (BitVec.lt_of_getLsbD h)
  have hrange : List.range n = List.range r.toNat ++ r.toNat :: (List.range d).map (r.toNat + 1 + ·) := by
    rw [hd, Nat.add_assoc, List.range_add, List.range_succ_eq_map]
    simp [Nat.add_assoc, Nat.add_comm 1, Function.comp_def]
  have hlist : registerList x = ((List.range r.toNat).filter fun i => x.getLsbD i).map (BitVec.ofNat 4) ++
      r :: (((List.range d).map (r.toNat + 1 + ·)).filter fun i => x.getLsbD i).map (BitVec.ofNat 4) := by
    rw [registerList, hrange, List.filter_append, List.filter_cons_of_pos h, List.map_append, List.map_cons,
      BitVec.ofNat_toNat, BitVec.setWidth_eq]
  rw [hlist, List.getElem?_append_right (by simp [listRank])]
  simp [listRank]

theorem nodup_registerList (hn : n ≤ 16) (x : BitVec n) : (registerList x).Nodup := by
  refine List.Nodup.map_on (fun i hi j hj hij => ?_) (List.nodup_range.filter _)
  have hi := List.mem_range.mp (List.mem_filter.mp hi).1
  have hj := List.mem_range.mp (List.mem_filter.mp hj).1
  have := congrArg BitVec.toNat hij
  simp only [BitVec.toNat_ofNat] at this
  omega

/-- R410: and at no other place. -/
theorem listRank_of_getElem? (hn : n ≤ 16) {i : Nat} (h : (registerList x)[i]? = some r) : listRank x r.toNat = i := by
  have hrank := getElem?_registerList (getLsbD_of_mem_registerList hn (List.mem_of_getElem? h))
  obtain ⟨hlt, -⟩ := List.getElem?_eq_some_iff.mp h
  exact ((List.getElem?_inj hlt (nodup_registerList hn x)).mp (h.trans hrank.symm)).symm

/-- A list of at most 15 registers has no PC. -/
theorem ne_pc_of_getLsbD (hn : n ≤ 15) (h : x.getLsbD r.toNat = true) : r ≠ pcReg := by
  rintro rfl
  exact absurd (BitVec.lt_of_getLsbD h) (Nat.not_lt.mpr hn)

theorem ne_pc_of_mem_registerList (hn : n ≤ 15) (h : r ∈ registerList x) : r ≠ pcReg :=
  ne_pc_of_getLsbD hn (getLsbD_of_mem_registerList (hn.trans (by decide)) h)

end RegisterList

/-- R411: the registers of a list below the PC have the same ranks in the list without it. -/
theorem listRank_setWidth (x : BitVec 16) {k : Nat} (hk : k ≤ 15) : listRank (x.setWidth 15) k = listRank x k :=
  congrArg List.length (List.filter_congr fun i hi => by simp [(List.mem_range.mp hi).trans_le hk])

theorem getLsbD_setWidth_reg (x : BitVec 16) {r : Reg} (hr : r ≠ pcReg) :
    (x.setWidth 15).getLsbD r.toNat = x.getLsbD r.toNat := by
  rw [BitVec.getLsbD_setWidth, decide_eq_true (toNat_lt_of_ne_pc hr), Bool.true_and]

/-- R411: a list with a register more has the PC. -/
theorem getLsbD_pc_of_length_lt {x : BitVec 16} (h : (registerList (x.setWidth 15)).length < listCount x) :
    x.getLsbD 15 = true := by
  by_contra h15
  rw [listCount_eq, if_neg h15] at h
  omega

/-! ### The registers that a block load leaves (R411, R422) -/

/-- The cells after the registers of mode `m` in a list are loaded, each with the word of its place. -/
def loadedCells (m : Mode) : List Reg → (Nat → Word) → Vector Word 32 → Vector Word 32
  | [], _, c => c
  | r :: rs, value, c => loadedCells m rs (fun k => value (k + 1)) (c.set (cellOf m r) (value 0))

/-- R410: and after the write-back, if there is one. -/
def backCells (s : State) (rn : Reg) (back : Option Word) (c : Vector Word 32) : Vector Word 32 :=
  match back with
  | some v => c.set (cellOf s.mode rn) v
  | none => c

theorem get_set_cell (c : Vector Word 32) (x y : Fin 32) (v : Word) : (c.set x v).get y = if x = y then v else c.get y := by
  simp only [Vector.get_eq_getElem, Vector.getElem_set, Fin.val_inj]

theorem loadedCells_get_of_ne {m : Mode} {x : Fin 32} : ∀ {rs : List Reg} {value : Nat → Word} {c : Vector Word 32},
    (∀ r ∈ rs, cellOf m r ≠ x) → (loadedCells m rs value c).get x = c.get x
  | [], _, _, _ => rfl
  | r :: rs, value, c, h => by
    rw [loadedCells, loadedCells_get_of_ne fun r' hr' => h r' (List.mem_cons_of_mem r hr'), get_set_cell,
      if_neg (h r List.mem_cons_self)]

theorem loadedCells_get {m : Mode} {r : Reg} : ∀ {rs : List Reg} {value : Nat → Word} {c : Vector Word 32} {i : Nat},
    (∀ r ∈ rs, r ≠ pcReg) → rs.Nodup → rs[i]? = some r → (loadedCells m rs value c).get (cellOf m r) = value i
  | r₀ :: rs, value, c, 0, hpc, hnd, h => by
    obtain rfl : r₀ = r := Option.some.inj h
    obtain ⟨hr₀, -⟩ := List.nodup_cons.mp hnd
    have hother (r' : Reg) (hr' : r' ∈ rs) : cellOf m r' ≠ cellOf m r₀ := fun heq =>
      hr₀ (((cellOf_eq_iff (hpc r' (List.mem_cons_of_mem r₀ hr')) (hpc r₀ List.mem_cons_self)).mp heq).1 ▸ hr')
    rw [loadedCells, loadedCells_get_of_ne hother, get_set_cell, if_pos rfl]
  | r₀ :: rs, value, c, i + 1, hpc, hnd, h =>
    loadedCells_get (value := fun k => value (k + 1)) (fun r' hr' => hpc r' (List.mem_cons_of_mem r₀ hr'))
      (List.nodup_cons.mp hnd).2 h

/-- R411, R422: these are the registers that the statements describe, if no listed register is a base that is written back. -/
theorem State.loadedBlock_of_cells {n : Nat} (hn : n ≤ 15) {s : State} {m : Mode} {x : BitVec n} {value : Nat → Word} {rn : Reg}
    {back : Option Word}
    (hback : back.isSome = true → ∀ r, r ≠ pcReg → x.getLsbD r.toNat = true → cellOf s.mode rn ≠ cellOf m r) :
    s.loadedBlock m x value rn back (backCells s rn back (loadedCells m (registerList x) value s.cells)) := by
  have hloaded (r : Reg) (hr : x.getLsbD r.toNat = true) :
      (loadedCells m (registerList x) value s.cells).get (cellOf m r) = value (listRank x r.toNat) :=
    loadedCells_get (fun _ => ne_pc_of_mem_registerList hn) (nodup_registerList (hn.trans (by decide)) x)
      (getElem?_registerList hr)
  have hkept (k : Fin 32) (hk : ∀ r : Reg, r ≠ pcReg → x.getLsbD r.toNat = true → cellOf m r ≠ k) :
      (loadedCells m (registerList x) value s.cells).get k = s.cells.get k :=
    loadedCells_get_of_ne fun r hr =>
      hk r (ne_pc_of_mem_registerList hn hr) (getLsbD_of_mem_registerList (hn.trans (by decide)) hr)
  cases back with
  | none => exact ⟨fun r _ hr => hloaded r hr, nofun, fun k hk _ => hkept k hk⟩
  | some v =>
    refine ⟨fun r hpc hr => ?_, fun w hw => ?_, fun k hk hbase => ?_⟩ <;> rw [backCells, get_set_cell]
    · rw [if_neg (hback rfl r hpc hr), hloaded r hr]
    · rw [if_pos rfl, Option.some.inj hw]
    · rw [if_neg (hbase rfl), hkept k hk]

/-- R411: the PC of a list is no register of the block. -/
theorem State.loadedBlock.of_setWidth {s : State} {m : Mode} {x : BitVec 16} {value : Nat → Word} {rn : Reg}
    {back : Option Word} {cells : Vector Word 32} (h : s.loadedBlock m (x.setWidth 15) value rn back cells) :
    s.loadedBlock m x value rn back cells := by
  obtain ⟨hloaded, hback, hkept⟩ := h
  refine ⟨fun r hpc hr => ?_, hback, fun k hk => hkept k fun r hpc hr => ?_⟩
  · rw [hloaded r hpc (by rwa [getLsbD_setWidth_reg x hpc]), listRank_setWidth x (toNat_lt_of_ne_pc hpc).le]
  · exact hk r hpc (by rwa [getLsbD_setWidth_reg x hpc] at hr)

/-! ### The load loop over words that are read -/

section LoadLoop

variable {s : State} {m : Mode} {K : Word → State → Res Unit} {R : Res Unit} {value : Nat → Word}

/-- A register that is not the PC takes its word. -/
theorem State.setRmode_withCells {r : Reg} (hr : r ≠ pcReg) (s : State) (c : Vector Word 32) (m : Mode) (v : Word) :
    (s.withCells c).setRmode m r v = s.withCells (c.set (cellOf m r) v) := if_neg hr

theorem State.readsBlock.mono {start : Word} {j k : Nat} (h : s.readsBlock start k value) (hjk : j ≤ k) :
    s.readsBlock start j value := fun n hn => h n (hn.trans_le hjk)

/-- R410: a read of the block answers the same whatever the registers hold. -/
theorem blockRead_withCells_ok {a v : Word} (h : blockRead a s = .ok v s) (c : Vector Word 32) :
    blockRead a (s.withCells c) = .ok v (s.withCells c) :=
  (memRead_withCells a .word _ s).trans (congrArg (Res.withCells c) h)

theorem blockRead_withCells_halt {a : Word} {f : Fault} (h : blockRead a s = .halt f) (c : Vector Word 32) :
    blockRead a (s.withCells c) = .halt f :=
  (memRead_withCells a .word _ s).trans (congrArg (Res.withCells c) h)

/-- R411, R422: after its first words are read and loaded the loop goes on with the others, and ends as they do if they do not
abort. -/
theorem loadList_append (hR : ∀ e t, R ≠ .exc e t) :
    ∀ {rs rest : List Reg} {a : Word} {value : Nat → Word} {c : Vector Word 32},
    (∀ r ∈ rs, r ≠ pcReg) → (∀ j < rs.length, blockRead (wordAt a j) s = .ok (value j) s) →
    loadList m K rest (wordAt a rs.length) (s.withCells (loadedCells m rs value c)) = R →
    loadList m K (rs ++ rest) a (s.withCells c) = R
  | [], rest, a, value, c, _, _, h => by
    rw [← h, List.length_nil, wordAt_zero]
    rfl
  | r :: rs, rest, a, value, c, hpc, hread, h => by
    have hfirst := hread 0 (Nat.succ_pos _)
    rw [wordAt_zero] at hfirst
    have hrest : loadList m K (rs ++ rest) (a + 4) (s.withCells (c.set (cellOf m r) (value 0))) = R := by
      refine loadList_append hR (value := fun k => value (k + 1)) (fun r' hr' => hpc r' (List.mem_cons_of_mem r hr'))
        (fun j hj => ?_) ?_
      · rw [wordAt_succ]
        exact hread (j + 1) (Nat.succ_lt_succ hj)
      · rwa [wordAt_succ]
    rw [List.cons_append, loadList, blockRead_withCells_ok hfirst, Res.andThen,
      State.setRmode_withCells (hpc r List.mem_cons_self), hrest]
    cases R with
    | exc e t => exact absurd rfl (hR e t)
    | ok x t => rfl
    | halt f => rfl

variable {i : Instr} {rs : List Reg} {start : Word} {rn : Reg}

/-- R342: a base is put back after an abort only. -/
theorem keepBase_of_ne_exc (hR : ∀ e t, R ≠ .exc e t) : keepBase rn s R = R := by
  cases R with
  | exc e t => exact absurd rfl (hR e t)
  | ok x t => rfl
  | halt f => rfl

/-- R411, R421, R422: an instruction that is such a loop, all of whose words are read, ends as what follows the loop. -/
theorem exec_of_readsBlock (hexec : exec i s = finish (keepBase rn s.starting (loadList m K rs start s.starting)))
    (hpc : ∀ r ∈ rs, r ≠ pcReg) (hread : s.readsBlock start rs.length value)
    (hend : K (wordAt start rs.length) (s.withCells (loadedCells m rs value s.cells)) = R) (hR : ∀ e t, R ≠ .exc e t) :
    exec i s = finish R := by
  have hloop : loadList m K (rs ++ []) start (s.withCells s.cells) = R := loadList_append hR hpc hread hend
  rw [List.append_nil] at hloop
  rw [hexec, show s.starting = s.withCells s.cells from rfl, hloop, keepBase_of_ne_exc hR]

/-- R102, R110: and halts as the first word that halts. -/
theorem blockLoadHalts_of_exec {count : Nat}
    (hexec : exec i s = finish (keepBase rn s.starting (loadList m K rs start s.starting)))
    (hpc : ∀ r ∈ rs, r ≠ pcReg) (hcount : count ≤ rs.length + 1)
    (hK : rs.length < count → ∀ a f, blockRead a s = .halt f → ∀ c, K a (s.withCells c) = .halt f) :
    BlockLoadHalts i s start count := by
  intro k value f hk hread hhalt
  have hlen : (rs.take k).length = k := List.length_take_of_le (by omega)
  have hloop : loadList m K (rs.take k ++ rs.drop k) start (s.withCells s.cells) = .halt f := by
    refine loadList_append (value := value) (by simp) (fun r hr => hpc r (List.mem_of_mem_take hr)) (by rwa [hlen]) ?_
    rw [hlen]
    by_cases hlt : k < rs.length
    · rw [List.drop_eq_getElem_cons hlt, loadList, blockRead_withCells_halt hhalt]
      rfl
    · rw [List.drop_eq_nil_of_le (by omega)]
      exact hK (by omega) _ f hhalt _
  rw [List.take_append_drop] at hloop
  rw [hexec, show s.starting = s.withCells s.cells from rfl, hloop, keepBase_of_ne_exc (by simp)]
  rfl

/-- R410: a read of the block that halts abandons what follows it, whatever the registers hold. -/
theorem blockRead_andThen_halt {a : Word} {f : Fault} (h : blockRead a s = .halt f) (c : Vector Word 32)
    (k : Word → State → Res Unit) : (blockRead a (s.withCells c)).andThen k = .halt f :=
  congrArg (Res.andThen · k) (blockRead_withCells_halt h c)

theorem blockRead_andThen_ok {a v : Word} (h : blockRead a s = .ok v s) (c : Vector Word 32)
    (k : Word → State → Res Unit) : (blockRead a (s.withCells c)).andThen k = k v (s.withCells c) :=
  congrArg (Res.andThen · k) (blockRead_withCells_ok h c)

end LoadLoop

/-! ### The write-back (R410) -/

theorem blockEnd_eq (u : Bool) (base : Word) (count : Nat) : blockEnd u base count = blockBack u base count := by
  have hbytes : blockBytes count = 4 * BitVec.ofNat 32 count := BitVec.ofNat_mul 4 count
  cases u <;> simp only [blockEnd, blockBack, hbytes]

theorem State.back_withCells {rn : Reg} (hrn : rn ≠ pcReg) (s : State) (w : Bool) (v : Word) (c : Vector Word 32) :
    (if w then (s.withCells c).setReg rn v else s.withCells c) =
      s.withCells (backCells s rn (if w then some v else none) c) := by
  cases w
  · rfl
  · exact State.setRmode_withCells hrn s c s.mode v

/-! ### The branch to the last word (R411, R41) -/

/-- R41, R42: what a branch to a loaded word goes on with. -/
theorem loadWritePC_andThen (v : Word) (s : State) (k : Unit → State → Res Unit) : (loadWritePC v s).andThen k =
    if v.getLsbD 0 then .halt (.notImplemented .thumb)
    else if v.getLsbD 1 then .halt (.unpredictable (.rule 41))
    else k () { s with pendingBranch := some v } := by
  show (if v.getLsbD 0 then _ else if v.getLsbD 1 then _ else _ : Res Unit).andThen k = _
  split_ifs <;> rfl

/-- R410: the write-back after the branch is decided. -/
theorem State.back_branched {rn : Reg} (hrn : rn ≠ pcReg) (s : State) (w : Bool) (v : Word) (c : Vector Word 32)
    (pb : Option Word) :
    (if w then State.setReg { s.withCells c with pendingBranch := pb } rn v else { s.withCells c with pendingBranch := pb }) =
      { s.withCells (backCells s rn (if w then some v else none) c) with pendingBranch := pb } := by
  cases w
  · rfl
  · exact State.setReg_of_ne hrn _ v

end Sys2Proof.Machine

namespace Sys2Proof

open Machine

/-! ### LDM -/

section Ldm

variable {i : Instr} {p u : Bool} {o : BlockOp}

/-- R410, R411: an LDM that runs has a base other than the PC, which is not in its list if it is written back. -/
theorem base_of_ldm_runs {s : State} (hr : i.runs s) (hunpred : i.unpredictable = (Instr.ldm o).unpredictable) :
    o.rn ≠ pcReg ∧ (o.w = true → o.registers.getLsbD o.rn.toNat = false) := by
  obtain ⟨hu, -⟩ := hr
  rw [hunpred] at hu
  simp only [Instr.unpredictable, Bool.or_eq_false_iff, Bool.and_eq_false_imp, beq_eq_false_iff_ne] at hu
  obtain ⟨⟨hrn, -⟩, hlist⟩ := hu
  exact ⟨hrn, hlist⟩

/-- R411: a base that is written back and is not in the list has no cell of the list. -/
theorem base_cell_ne {n : Nat} {s : State} {x : BitVec n} {rn : Reg} {w : Bool} {v : Word} (hrn : rn ≠ pcReg)
    (hlist : w = true → x.getLsbD rn.toNat = false) :
    (if w then some v else none).isSome = true → ∀ r, r ≠ pcReg → x.getLsbD r.toNat = true →
      cellOf s.mode rn ≠ cellOf s.mode r := by
  intro hw r hpc hr heq
  obtain ⟨rfl, -⟩ := (cellOf_eq_iff hrn hpc).mp heq
  cases w with
  | false => cases hw
  | true => exact absurd hr (by simp [hlist rfl])

/-- R410, R411: the cells after an LDM: its registers loaded, its base written back. -/
def Machine.State.ldmCells (s : State) (u : Bool) (o : BlockOp) (value : Nat → Word) : Vector Word 32 :=
  backCells s o.rn (if o.w then some (blockBack u (s.reg o.rn) (listCount o.registers)) else none)
    (loadedCells s.mode (registerList (o.registers.setWidth 15)) value s.cells)

theorem loadedBlock_ldmCells {s : State} (hrn : o.rn ≠ pcReg)
    (hlist : o.w = true → o.registers.getLsbD o.rn.toNat = false) (u : Bool) (value : Nat → Word) :
    s.loadedBlock s.mode o.registers value o.rn
      (if o.w then some (blockBack u (s.reg o.rn) (listCount o.registers)) else none) (s.ldmCells u o value) :=
  (State.loadedBlock_of_cells (by decide)
    (base_cell_ne hrn fun hw => by rw [getLsbD_setWidth_reg _ hrn, hlist hw])).of_setWidth

section Words

variable {s : State} {value : Nat → Word}

/-- R411: without the PC in its list an LDM loads, writes back and goes on. -/
theorem exec_ldm (h : i.EndsAs (ldmBody p u o.w o.rn o.registers)) (hr : i.runs s) (hrn : o.rn ≠ pcReg)
    (h15 : o.registers.getLsbD 15 = false)
    (hread : s.readsBlock (blockFrom p u (s.reg o.rn) (listCount o.registers)) (listCount o.registers) value) :
    exec i s = .next (State.advance { s with cells := s.ldmCells u o value }) := by
  have hcount := listCount_eq o.registers
  rw [← blockStart_eq] at hread
  refine exec_of_readsBlock (R := .done (s.withCells (s.ldmCells u o value))) (h s hr)
    (fun _ => ne_pc_of_mem_registerList (by decide)) (hread.mono (by omega)) ?_ (by simp [Res.done])
  rw [State.ldmCells, ← State.back_withCells hrn, ← blockEnd_eq]
  exact if_neg (ne_true_of_eq_false h15)

/-- R411, R41: with the PC in its list it branches to the word after those of the registers. -/
theorem exec_ldm_pc (h : i.EndsAs (ldmBody p u o.w o.rn o.registers)) (hr : i.runs s) (hrn : o.rn ≠ pcReg)
    (h15 : o.registers.getLsbD 15 = true)
    (hread : s.readsBlock (blockFrom p u (s.reg o.rn) (listCount o.registers)) (listCount o.registers) value) :
    let last := value (listCount o.registers - 1)
    exec i s =
      if last.getLsbD 0 then .fault (.notImplemented .thumb)
      else if last.getLsbD 1 then .fault (.unpredictable (.rule 41))
      else .next { s with cells := s.ldmCells u o value, pc := last, pendingBranch := none } := by
  intro last
  have hcount : listCount o.registers = (registerList (o.registers.setWidth 15)).length + 1 := by
    rw [listCount_eq, if_pos h15]
  have hlast : value (registerList (o.registers.setWidth 15)).length = last := congrArg value (by omega)
  rw [← blockStart_eq] at hread
  rw [exec_of_readsBlock (h s hr) (fun _ => ne_pc_of_mem_registerList (by decide)) (hread.mono (by omega))
    (R := if last.getLsbD 0 then .halt (.notImplemented .thumb) else if last.getLsbD 1 then .halt (.unpredictable (.rule 41))
      else .done { s.withCells (s.ldmCells u o value) with pendingBranch := some last })]
  · rw [apply_ite finish, apply_ite finish]
    rfl
  · refine (if_pos h15).trans ((blockRead_andThen_ok (hread _ (by omega)) _ _).trans ?_)
    rw [loadWritePC_andThen, hlast, State.ldmCells, ← State.back_branched hrn, ← blockEnd_eq]
    rfl
  · split_ifs <;> simp [Res.done]

end Words

/-- R411 to R415: each addressing mode of LDM loads its block. -/
theorem loadsBlock_of_endsAs (h : i.EndsAs (ldmBody p u o.w o.rn o.registers))
    (hunpred : i.unpredictable = (Instr.ldm o).unpredictable) : LoadsBlock i p u o := by
  intro s hr
  obtain ⟨hrn, hlist⟩ := base_of_ldm_runs hr hunpred
  refine ⟨fun value hread => ⟨fun h15 => ?next, fun h15 htarget => ?branch, fun h15 h0 => ?thumb,
    fun h15 h0 h1 => ?unaligned⟩, ?halts⟩
  case next => exact ⟨_, exec_ldm h hr hrn h15 hread, loadedBlock_ldmCells hrn hlist u value⟩
  case branch =>
    obtain ⟨h0, h1⟩ := low_bits_of_aligned htarget
    refine ⟨_, (exec_ldm_pc h hr hrn h15 hread).trans ?_, loadedBlock_ldmCells hrn hlist u value⟩
    rw [h0, h1]
    rfl
  case thumb => exact (exec_ldm_pc h hr hrn h15 hread).trans (if_pos h0)
  case unaligned =>
    refine (exec_ldm_pc h hr hrn h15 hread).trans ?_
    rw [h0, h1]
    rfl
  case halts =>
    rw [← blockStart_eq]
    refine blockLoadHalts_of_exec (h s hr) (fun _ => ne_pc_of_mem_registerList (by decide)) ?_ fun hlt a f hf c => ?_
    · rw [listCount_eq]
      split <;> omega
    · exact (if_pos (getLsbD_pc_of_length_lt hlt)).trans (blockRead_andThen_halt hf c _)

end Ldm

/-- Settles O51: the four addressing modes of LDM by their one body. -/
theorem loadMultipleResults : Obligations.LoadMultipleResults := by
  intro o
  refine ⟨?ldm, ?ldmda, ?ldmdb, ?ldmib⟩
  case ldm => exact loadsBlock_of_endsAs (ldm_endsAs (.inl ⟨rfl, rfl, rfl⟩)).1 rfl
  case ldmda => exact loadsBlock_of_endsAs (ldm_endsAs (.inr (.inl ⟨rfl, rfl, rfl⟩))).1 rfl
  case ldmdb => exact loadsBlock_of_endsAs (ldm_endsAs (.inr (.inr (.inl ⟨rfl, rfl, rfl⟩)))).1 rfl
  case ldmib => exact loadsBlock_of_endsAs (ldm_endsAs (.inr (.inr (.inr ⟨rfl, rfl, rfl⟩)))).1 rfl

/-! ### LDM (user registers) (R422) -/

section LdmUser

variable {o : LdmUserOp} {s : State}

theorem ldmUser_endsAs (o : LdmUserOp) : (Instr.ldmUser o).EndsAs (ldmUserBody o) :=
  Instr.endsAs rfl (fun _ => rfl) (by simp [Instr.unpredictable, Bool.or_assoc])

/-- R38: the two ways to say that the mode has no SPSR. -/
theorem Machine.State.usrOrSys_iff (s : State) : s.usrOrSys = true ↔ s.mode = .usr ∨ s.mode = .sys := by
  simp [State.usrOrSys]

/-- R422: in the other modes it is a load loop over the User mode copies. -/
theorem exec_ldmUser (hr : (Instr.ldmUser o).runs s) (hmode : ¬ (s.mode = .usr ∨ s.mode = .sys)) :
    exec (.ldmUser o) s = finish (keepBase o.rn s.starting (loadList .usr (fun _ t => .done t) (registerList o.registers)
      (blockFrom o.p o.u (s.reg o.rn) (listCount o.registers)) s.starting)) := by
  rw [← blockStart_eq]
  exact (ldmUser_endsAs o s hr).trans (congrArg finish (if_neg (s.usrOrSys_iff.not.mpr hmode)))

/-- R422: the User mode copies are loaded, and the base stays. -/
theorem exec_ldmUser_words {value : Nat → Word} (hr : (Instr.ldmUser o).runs s) (hmode : ¬ (s.mode = .usr ∨ s.mode = .sys))
    (hread : s.readsBlock (blockFrom o.p o.u (s.reg o.rn) (listCount o.registers)) (listCount o.registers) value) :
    exec (.ldmUser o) s
      = .next (State.advance { s with cells := loadedCells .usr (registerList o.registers) value s.cells }) := by
  refine exec_of_readsBlock (exec_ldmUser hr hmode) (fun _ => ne_pc_of_mem_registerList (by decide)) ?_ rfl
    (by simp [Res.done])
  rwa [length_registerList]

theorem ldmUser_halts (hr : (Instr.ldmUser o).runs s) (hmode : ¬ (s.mode = .usr ∨ s.mode = .sys)) :
    BlockLoadHalts (.ldmUser o) s (blockFrom o.p o.u (s.reg o.rn) (listCount o.registers)) (listCount o.registers) := by
  refine blockLoadHalts_of_exec (exec_ldmUser hr hmode) (fun _ => ne_pc_of_mem_registerList (by decide)) ?_
    fun hlt => absurd hlt ?_ <;>
  · rw [length_registerList]
    omega

end LdmUser

namespace Machine

/-! ### The return from an exception (R527) -/

/-- R38: a mode with an SPSR is privileged. -/
theorem State.privileged_of_spsr {s : State} {w : Word} (h : s.spsr.get s.mode = some w) : s.privileged = true := by
  by_contra hp
  have husr : s.mode = .usr := State.mode_of_bits (by simpa [State.privileged] using hp)
  rw [husr] at h
  cases h

/-- R40: a branch to a word-aligned address clears none of its bits. -/
theorem and_clearLow_of_aligned {x : Word} (h : x.extractLsb' 0 2 = 0) : x &&& 0xFFFFFFFC = x := by
  obtain ⟨h0, h1⟩ := low_bits_of_aligned h
  have hmask : ∀ j < 32, (0xFFFFFFFC : Word).getLsbD j = decide (2 ≤ j) := by decide
  ext j hj
  rw [← BitVec.getLsbD_eq_getElem, ← BitVec.getLsbD_eq_getElem, BitVec.getLsbD_and, hmask j hj]
  obtain rfl | rfl | h2 : j = 0 ∨ j = 1 ∨ 2 ≤ j := by omega
  · rw [h0, Bool.false_and]
  · rw [h1, Bool.false_and]
  · rw [decide_eq_true h2, Bool.and_true]

section Return

variable {s : State} {spsr target : Word}

/-- R39: every bit of CPSR after a return, which writes all fields and the execution state. -/
theorem State.returnedCpsr_cpsrWritten (hp : s.privileged = true) : s.returnedCpsr spsr (s.cpsrWritten spsr 0b1111 true) := by
  have hmask : ∀ b, ∀ j < 32, (cpsrWriteMask 0b1111 true true b).getLsbD j =
      !decide ((20 ≤ j ∧ j ≤ 23) ∨ (j = 6 ∧ b = true)) := by decide
  intro j hj
  rw [State.cpsrWritten, getLsbD_merge _ _ _ _ hj, hp, hmask _ j hj, nmfiBlocks_eq]
  simp only [Bool.not_eq_true', decide_eq_false_iff_not, ite_not]

/-- R37, R39: it takes T, IT and J from the SPSR. -/
theorem State.execStateFault_returned (hp : s.privileged = true) :
    execStateFault (s.cpsrWritten spsr 0b1111 true) = execStateFault spsr := by
  have hmask : ∀ b, cpsrWriteMask 0b1111 true true b &&& 0x0700FC20 = 0x0700FC20 := by decide
  rw [State.cpsrWritten, hp]
  exact execStateFault_congr (merge_and_of_subset (hmask _) _ _)

theorem exceptionReturn_unaligned (hs : s.spsr.get s.mode = some spsr) (hT : psrT spsr = false)
    (halign : ¬ target.extractLsb' 0 2 = 0) : exceptionReturn target s = .halt (.unpredictable (.rule 527)) := by
  have hcheck : (!psrT spsr && slice target 0 2 != 0) = true := by simpa [hT, slice] using halign
  simp only [exceptionReturn, hs, if_pos hcheck]

theorem exceptionReturn_write (hs : s.spsr.get s.mode = some spsr) (halign : psrT spsr = true ∨ target.extractLsb' 0 2 = 0) :
    exceptionReturn target s =
      (cpsrWriteByInstr spsr 0b1111 true s).andThen fun _ t => .done (t.branchWritePC target) := by
  have hcheck : ¬ (!psrT spsr && slice target 0 2 != 0) = true := by
    obtain h | h := halign <;> simp [slice, h]
  simp only [exceptionReturn, hs, if_neg hcheck]

/-- R37, R39: a write of CPSR that would leave ARM state halts. -/
theorem cpsrWriteByInstr_fault {value : Word} {mask : BitVec 4} {ex : Bool} {f : Fault}
    (hmode : mask.getLsbD 0 = true → s.privileged = true → badMode (psrM value) = false)
    (hf : execStateFault (s.cpsrWritten value mask ex) = some f) : cpsrWriteByInstr value mask ex s = .halt f := by
  have hlegal : ¬ (mask.getLsbD 0 && s.privileged && badMode (psrM value)) = true := by
    simpa only [Bool.and_eq_true, not_and, Bool.not_eq_true, and_imp] using hmode
  rw [cpsrWriteByInstr, if_neg hlegal, hf]

theorem execStateFault_thumb (h : psrT spsr = true ∨ spsr &&& itMask ≠ 0) :
    execStateFault spsr = some (.notImplemented .thumb) := by
  rw [execStateFault, if_pos (by simpa using h)]

theorem execStateFault_not_thumb (h : ¬ (psrT spsr = true ∨ spsr &&& itMask ≠ 0)) :
    execStateFault spsr = if psrJ spsr then some (.notImplemented .jazelle) else none := by
  rw [execStateFault, if_neg (by simpa using h)]

/-- R527: how an exception return ends, in the order of its checks. -/
theorem exceptionReturn_ends (hs : s.spsr.get s.mode = some spsr) :
    ReturnEnds spsr target (finish (exceptionReturn target s))
      (∃ c, finish (exceptionReturn target s) = .next { s with cpsr := c, pc := target, pendingBranch := none } ∧
        s.returnedCpsr spsr c) := by
  have hp := State.privileged_of_spsr hs
  refine ⟨fun hT halign => ?unaligned, fun halign hb => ?badMode, fun halign hb hthumb => ?thumb,
    fun halign hb hthumb hJ => ?jazelle, fun halign hb hthumb hJ => ?completes⟩
  case unaligned => rw [exceptionReturn_unaligned hs hT halign]; rfl
  case badMode => rw [exceptionReturn_write hs halign, cpsrWriteByInstr_badMode rfl hp hb]; rfl
  case thumb =>
    have hf := (s.execStateFault_returned hp).trans (execStateFault_thumb hthumb)
    rw [exceptionReturn_write hs halign, cpsrWriteByInstr_fault (fun _ _ => hb) hf]
    rfl
  case jazelle =>
    have hf := (s.execStateFault_returned hp).trans ((execStateFault_not_thumb hthumb).trans (if_pos hJ))
    rw [exceptionReturn_write hs (.inr halign), cpsrWriteByInstr_fault (fun _ _ => hb) hf]
    rfl
  case completes =>
    have hf := (s.execStateFault_returned hp).trans ((execStateFault_not_thumb hthumb).trans (if_neg (ne_true_of_eq_false hJ)))
    refine ⟨_, ?_, State.returnedCpsr_cpsrWritten hp⟩
    rw [exceptionReturn_write hs (.inr halign), cpsrWriteByInstr_done (fun _ _ => hb) hf]
    simp only [Res.done, Res.andThen, finish, State.commit, State.branchWritePC, and_clearLow_of_aligned halign, Option.getD_some]

end Return

/-- A return that completes so completes in every weaker way. -/
theorem ReturnEnds.imp {spsr target : Word} {out : Out} {P Q : Prop} (h : ReturnEnds spsr target out P) (hPQ : P → Q) :
    ReturnEnds spsr target out Q := by
  obtain ⟨hunaligned, hmode, hthumb, hjazelle, hcompletes⟩ := h
  exact ⟨hunaligned, hmode, hthumb, hjazelle, fun halign hb ht hJ => hPQ (hcompletes halign hb ht hJ)⟩

end Machine

/-! ### LDM (exception return) (R421) -/

section LdmExc

variable {o : LdmExcOp} {s : State}

theorem ldmExcReturn_endsAs (o : LdmExcOp) : (Instr.ldmExcReturn o).EndsAs (ldmExcBody o) :=
  Instr.endsAs rfl (fun _ => rfl) (by simp [Instr.unpredictable])

/-- R410, R421: one that runs has a base other than the PC, which is not in its list if it is written back. -/
theorem base_of_ldmExcReturn_runs (hr : (Instr.ldmExcReturn o).runs s) :
    o.rn ≠ pcReg ∧ (o.w = true → o.registers.getLsbD o.rn.toNat = false) := by
  obtain ⟨hu, -⟩ := hr
  simpa only [Instr.unpredictable, Bool.or_eq_false_iff, Bool.and_eq_false_imp, beq_eq_false_iff_ne] using hu

/-- R421: after the loop, the last word, the write-back and the return. -/
def LdmExcOp.afterLoads (o : LdmExcOp) (s : State) (a : Word) (t : State) : Res Unit :=
  (blockRead a t).andThen fun v u => exceptionReturn v
    (if o.w then u.setReg o.rn (blockEnd o.u (s.reg o.rn) (listCount o.registers + 1)) else u)

theorem exec_ldmExcReturn (hr : (Instr.ldmExcReturn o).runs s) (hmode : ¬ (s.mode = .usr ∨ s.mode = .sys)) :
    exec (.ldmExcReturn o) s = finish (keepBase o.rn s.starting (loadList s.mode (o.afterLoads s)
      (registerList o.registers) (blockFrom o.p o.u (s.reg o.rn) (listCount o.registers + 1)) s.starting)) := by
  rw [← blockStart_eq]
  exact (ldmExcReturn_endsAs o s hr).trans (congrArg finish (if_neg (s.usrOrSys_iff.not.mpr hmode)))

/-- R421: the block loaded, the base written back, and the return to the last word. -/
theorem exec_ldmExcReturn_words {value : Nat → Word} (hr : (Instr.ldmExcReturn o).runs s)
    (hmode : ¬ (s.mode = .usr ∨ s.mode = .sys))
    (hread : s.readsBlock (blockFrom o.p o.u (s.reg o.rn) (listCount o.registers + 1)) (listCount o.registers + 1) value) :
    exec (.ldmExcReturn o) s = finish (exceptionReturn (value (listCount o.registers)) (s.withCells
      (backCells s o.rn (if o.w then some (blockBack o.u (s.reg o.rn) (listCount o.registers + 1)) else none)
        (loadedCells s.mode (registerList o.registers) value s.cells)))) := by
  have hlen := length_registerList o.registers
  refine exec_of_readsBlock (exec_ldmExcReturn hr hmode) (fun _ => ne_pc_of_mem_registerList (by decide))
    (hread.mono (by omega)) ?_ fun _ _ => exceptionReturn_not_exc
  rw [LdmExcOp.afterLoads, hlen, blockRead_andThen_ok (hread _ (by omega)), blockEnd_eq,
    State.back_withCells (base_of_ldmExcReturn_runs hr).1]

theorem ldmExcReturn_halts (hr : (Instr.ldmExcReturn o).runs s) (hmode : ¬ (s.mode = .usr ∨ s.mode = .sys)) :
    BlockLoadHalts (.ldmExcReturn o) s (blockFrom o.p o.u (s.reg o.rn) (listCount o.registers + 1))
      (listCount o.registers + 1) :=
  blockLoadHalts_of_exec (exec_ldmExcReturn hr hmode) (fun _ => ne_pc_of_mem_registerList (by decide))
    (by rw [length_registerList]) fun _ _ _ hf c => blockRead_andThen_halt hf c _

/-- R38: a mode with an SPSR is neither User nor System. -/
theorem Machine.State.not_usr_sys_of_spsr {w : Word} (h : s.spsr.get s.mode = some w) : ¬ (s.mode = .usr ∨ s.mode = .sys) := by
  rintro (hm | hm) <;>
  · rw [hm] at h
    cases h

/-- Settles O30: the load of the block, and the exception return from the registers that it leaves. -/
theorem ldmExceptionReturn : Obligations.LdmExceptionReturn := by
  intro o s hr
  refine ⟨fun hmode => ?noSPSR, fun husr hsys => ldmExcReturn_halts hr (not_or.mpr ⟨husr, hsys⟩),
    fun spsr value hs hread => ?returns⟩
  case noSPSR => exact (ldmExcReturn_endsAs o s hr).trans (congrArg finish (if_pos (s.usrOrSys_iff.mpr hmode)))
  case returns =>
    obtain ⟨hrn, hlist⟩ := base_of_ldmExcReturn_runs hr
    rw [exec_ldmExcReturn_words hr (State.not_usr_sys_of_spsr hs) hread]
    refine (exceptionReturn_ends (s := s.withCells _) hs).imp fun ⟨c, hnext, hcpsr⟩ => ⟨_, c, hnext, ?_, hcpsr⟩
    exact State.loadedBlock_of_cells (by decide) (base_cell_ne hrn hlist)

end LdmExc

end Sys2Proof
end

section
/-! SUPPORT. O52 and O53 (spec/44_branch_block.md): the stores of several registers. The store loop word by word, the memory that it
leaves where every word is stored at its own address, and with it the two kinds of STM; at the end O53, with the loads above. -/

namespace Sys2Proof.Machine

/-- R12: a piece that ends well without a further change adds nothing. -/
theorem Res.andThen_done (r : Res Unit) : (r.andThen fun _ t => .done t) = r := by
  cases r <;> rfl

/-! ### The store loop -/

section StoreLoop

variable {s : State} {m : Mode}

/-- R107: a write answers the same to the body of an instruction. -/
theorem memWrite_starting (va : Word) (w : Width) (v : Word) (acc : Access) (s : State) :
    memWrite va w v acc s.starting = (memWrite va w v acc s).starting := by
  have hstored := memWrite_leads va w v acc s
  refine (memWrite_withCells (c := s.cells) va w v acc s).trans ?_
  cases hr : memWrite va w v acc s with
  | halt f => rfl
  | ok a t =>
    obtain ⟨mem, rfl, -⟩ : s.StoredFrom t := by simpa [hr] using hstored
    rfl
  | exc e t =>
    obtain ⟨mem, rfl, -⟩ : s.StoredFrom t := by simpa [hr] using hstored
    rfl

theorem storeList_starting (m : Mode) : ∀ (rs : List Reg) (a : Word) (s : State),
    storeList m rs a s.starting = (storeList m rs a s).starting
  | [], _, _ => rfl
  | r :: rs, a, s => by
    have hword : storeList m (r :: rs) a s.starting =
        (memWrite a .word (if r = pcReg then s.pcStoreValue else s.rmode m r) (writeAccess false false) s.starting).andThen
          fun _ t => storeList m rs (a + 4) t := rfl
    rw [hword, memWrite_starting, storeList]
    cases memWrite a .word (if r = pcReg then s.pcStoreValue else s.rmode m r) (writeAccess false false) s with
    | halt f => rfl
    | ok x t => exact storeList_starting m rs (a + 4) t
    | exc e t => rfl

/-- R416, R423: the first registers of a list are stored, then the others at the addresses after them. -/
theorem storeList_append (m : Mode) : ∀ (rs rest : List Reg) (a : Word) (s : State), storeList m (rs ++ rest) a s =
    (storeList m rs a s).andThen fun _ t => storeList m rest (wordAt a rs.length) t
  | [], rest, a, s => by
    rw [List.length_nil, wordAt_zero]
    rfl
  | r :: rs, rest, a, s => by
    rw [List.cons_append, storeList, storeList, List.length_cons, ← wordAt_succ]
    cases memWrite a .word (if r = pcReg then s.pcStoreValue else s.rmode m r) (writeAccess false false) s with
    | halt f => rfl
    | ok x t => exact storeList_append m rs rest (a + 4) t
    | exc e t => rfl

theorem storeList_ok_state {rs : List Reg} {a : Word} {t : State} (h : storeList m rs a s = .ok () t) :
    t = { s with mem := t.mem } := by
  obtain ⟨mem, rfl, -⟩ : s.StoredFrom t := by simpa [h] using storeList_leads m rs a s
  rfl

/-- R416, R423: the store of one register, whose value does not depend on the words stored before it. -/
theorem storeList_singleton {mem : Memory} (r : Reg) (a : Word) : storeList m [r] a { s with mem := mem } =
    memWrite a .word (s.storedWord m r) (writeAccess false false) { s with mem := mem } :=
  Res.andThen_done (memWrite a .word (s.storedWord m r) (writeAccess false false) { s with mem := mem })

end StoreLoop

/-! ### The words of a block of registers -/

section WordsStored

variable {s : State} {m : Mode} {x : BitVec 16} {start : Word} {k : Nat} {σ : Nat → Memory}

theorem State.wordsStored.of_succ (h : s.wordsStored m x start (k + 1) σ) : s.wordsStored m x start k σ :=
  ⟨h.1, fun r hr hk => h.2 r hr (Nat.lt_succ_of_lt hk)⟩

/-- The first `k` registers of a list and, where the list has one, the register of rank `k`. -/
theorem take_succ_registerList {r : Reg} (hr : x.getLsbD r.toNat = true) (hk : listRank x r.toNat = k) :
    (registerList x).take (k + 1) = (registerList x).take k ++ [r] := by
  rw [List.take_add_one, ← hk, getElem?_registerList hr]
  rfl

theorem length_take_registerList (hk : k ≤ listCount x) : ((registerList x).take k).length = k := by
  rw [List.length_take, length_registerList, Nat.min_eq_left hk]

/-- R416, R423: the first `k` words of the block are stored. -/
theorem storeList_take : ∀ {k : Nat}, k ≤ listCount x → s.wordsStored m x start k σ →
    storeList m ((registerList x).take k) start s = .ok () { s with mem := σ k }
  | 0, _, ⟨hstart, _⟩ => by
    rw [hstart]
    rfl
  | k + 1, hk, h => by
    have hlt : k < (registerList x).length := by rwa [length_registerList]
    have hget : (registerList x)[k]? = some (registerList x)[k] := List.getElem?_eq_getElem hlt
    have hr := getLsbD_of_mem_registerList (by decide) (List.mem_of_getElem? hget)
    have hrank := listRank_of_getElem? (by decide) hget
    obtain ⟨pa, hreach, hnext⟩ := h.2 _ hr (by omega)
    rw [hrank] at hreach hnext
    rw [take_succ_registerList hr hrank, storeList_append, storeList_take (Nat.le_of_succ_le hk) h.of_succ, Res.andThen,
      length_take_registerList (Nat.le_of_succ_le hk), storeList_singleton, hreach.memWrite_eq, hnext]
    rfl

/-- R416, R423: and what the write of the next one answers, unless it answers well, the store of the block answers. -/
theorem storeList_fails {r : Reg} (hr : x.getLsbD r.toNat = true) (hk : listRank x r.toNat = k)
    (h : s.wordsStored m x start k σ) {R : Res Unit} (hR : ∀ t, R ≠ .ok () t)
    (hwrite : memWrite (wordAt start k) .word (s.storedWord m r) (writeAccess false false) { s with mem := σ k } = R) :
    storeList m (registerList x) start s = R := by
  have hlt : k < listCount x := by
    rw [← length_registerList, ← hk]
    exact (List.getElem?_eq_some_iff.mp (getElem?_registerList hr)).1
  have hnext : storeList m ((registerList x).take (k + 1)) start s = R := by
    rw [take_succ_registerList hr hk, storeList_append, storeList_take hlt.le h, Res.andThen,
      length_take_registerList hlt.le, storeList_singleton, hwrite]
  rw [← List.take_append_drop (k + 1) (registerList x), storeList_append, hnext]
  exact Res.andThen_of_not_ok (fun _ t => hR t) _

end WordsStored

/-! ### A block stored at its own addresses -/

/-- The memory after the words of a list of registers are stored from `a` upwards. -/
def storedMemory (word : Reg → Word) : List Reg → Word → Memory → Memory
  | [], _, mem => mem
  | r :: rs, a, mem => storedMemory word rs (a + 4) (mem.writeBytes a 4 (word r))

section PlainBlock

variable {s : State} {a : Word} {word : Reg → Word}

/-- R107: each word of a plain block is made at its own address. -/
theorem State.plainBlock.reaches (h : s.plainBlock a) : s.reaches a .word (writeAccess false false) a := by
  obtain ⟨hE, hmmu, halign⟩ := h
  exact ⟨hE, .inl ⟨halign.imp_right fun hcheck => ⟨rfl, hcheck⟩, State.translate_of_mmu_off hmmu a _⟩⟩

theorem State.plainBlock.next (h : s.plainBlock a) (mem : Memory) : State.plainBlock { s with mem := mem } (a + 4) := by
  obtain ⟨hE, hmmu, halign⟩ := h
  refine ⟨hE, hmmu, halign.imp_left fun h0 => ?_⟩
  rw [BitVec.toNat_add]
  change (a.toNat + 4) % 2 ^ 32 % 4 = 0
  omega

theorem storeList_of_plain (m : Mode) : ∀ (rs : List Reg) {s : State} {a : Word}, s.plainBlock a →
    storeList m rs a s = .ok () { s with mem := storedMemory (s.storedWord m) rs a s.mem }
  | [], _, _, _ => rfl
  | r :: rs, s, a, h => by
    have hfirst := h.reaches.memWrite_eq (s.storedWord m r)
    exact (congrArg (Res.andThen · _) hfirst).trans (storeList_of_plain m rs (h.next _))

/-- R103, R416: the bytes outside the block stay. -/
theorem read_storedMemory_outside {b : Word} : ∀ {rs : List Reg} {a : Word} {mem : Memory}, mem.wf = true →
    4 * rs.length ≤ (b - a).toNat → (storedMemory word rs a mem).read b = mem.read b
  | [], _, _, _, _ => rfl
  | r :: rs, a, mem, hmem, hb => by
    rw [List.length_cons] at hb
    have hnext : (b - (a + 4)).toNat = (b - a).toNat - 4 := by
      rw [← sub_sub]
      generalize b - a = d at hb
      bv_omega
    rw [storedMemory, read_storedMemory_outside (Memory.writeBytes_wf 4 a _ hmem) (by omega),
      Memory.stored_writeBytes 4 a _ hmem (by decide), if_neg (by omega)]

/-- R103, R416: and word `i` of the block holds the register of that place. -/
theorem read_storedMemory {r : Reg} {k : Nat} (hk : k < 4) : ∀ {rs : List Reg} {a : Word} {mem : Memory} {i : Nat},
    mem.wf = true → rs.length ≤ 16 → rs[i]? = some r →
    (storedMemory word rs a mem).read (wordAt a i + BitVec.ofNat 32 k) = (word r).extractLsb' (8 * k) 8
  | r₀ :: rs, a, mem, 0, hmem, hlen, h => by
    obtain rfl : r₀ = r := Option.some.inj h
    rw [List.length_cons] at hlen
    have hoff : (a + BitVec.ofNat 32 k - a).toNat = k := by
      rw [add_sub_cancel_left, BitVec.toNat_ofNat]
      omega
    have hout : 4 * rs.length ≤ (a + BitVec.ofNat 32 k - (a + 4)).toNat := by
      rw [← sub_sub]
      generalize a + BitVec.ofNat 32 k - a = d at hoff
      bv_omega
    rw [wordAt_zero, storedMemory, read_storedMemory_outside (Memory.writeBytes_wf 4 a _ hmem) hout,
      Memory.stored_writeBytes 4 a _ hmem (by decide), hoff, if_pos hk]
  | r₀ :: rs, a, mem, i + 1, hmem, hlen, h => by
    rw [storedMemory, ← wordAt_succ]
    exact read_storedMemory hk (Memory.writeBytes_wf 4 a _ hmem) (Nat.le_of_succ_le hlen) h

theorem listCount_le {n : Nat} (x : BitVec n) : listCount x ≤ n :=
  (List.length_filter_le _ _).trans_eq List.length_range

/-- R416, R423: this is the memory that the statements describe. -/
theorem State.storedBlock_storedMemory {m : Mode} {x : BitVec 16} (hmem : s.memoryCanonical = true) :
    s.storedBlock m x a (storedMemory (s.storedWord m) (registerList x) a s.mem) := by
  refine ⟨fun r hr k hk => ?_, fun b hb => ?_⟩
  · exact read_storedMemory hk hmem (by rw [length_registerList]; exact listCount_le x) (getElem?_registerList hr)
  · exact read_storedMemory_outside hmem (by rwa [length_registerList])

end PlainBlock

/-! ### An instruction that stores a block -/

section Store

variable {i : Instr} {s : State} {m : Mode} {x : BitVec 16} {start : Word} {back : State → State}

/-- R416, R423: the instruction stores the block and then writes back as `back` says, which no pending PC write changes. -/
def StoresThenBack (i : Instr) (s : State) (m : Mode) (x : BitVec 16) (start : Word) (back : State → State) : Prop :=
  (∀ t : State, back t.starting = (back t).starting) ∧
  exec i s = finish ((storeList m (registerList x) start s.starting).andThen fun _ t => .done (back t))

theorem StoresThenBack.exec_ok (h : StoresThenBack i s m x start back) {t : State}
    (ht : storeList m (registerList x) start s = .ok () t) : exec i s = .next (State.advance (back { s with mem := t.mem })) := by
  obtain ⟨hback, hexec⟩ := h
  rw [hexec, storeList_starting, ht, storeList_ok_state ht]
  show Host.Outcome.next (back (State.starting { s with mem := t.mem })).commit = _
  rw [hback]
  rfl

theorem StoresThenBack.exec_abort (h : StoresThenBack i s m x start back) {mem : Memory} {va : Word} {status : FaultStatus}
    {write : Bool} (ht : storeList m (registerList x) start s = .exc (.dataAbort va status write) { s with mem := mem }) :
    exec i s = takeException .dataAbort (s.pc + 8) (State.setMemoryAbort { s with mem := mem } va status write) := by
  obtain ⟨-, hexec⟩ := h
  rw [hexec, storeList_starting, ht]
  exact finish_dataAbort va status write { s with mem := mem }

theorem StoresThenBack.exec_halt (h : StoresThenBack i s m x start back) {f : Fault}
    (ht : storeList m (registerList x) start s = .halt f) : exec i s = .fault f := by
  obtain ⟨-, hexec⟩ := h
  rw [hexec, storeList_starting, ht]
  rfl

theorem StoresThenBack.exec_plain (h : StoresThenBack i s m x start back) (hmem : s.memoryCanonical = true)
    (hplain : s.plainBlock start) :
    ∃ mem, exec i s = .next (State.advance (back { s with mem := mem })) ∧ s.storedBlock m x start mem :=
  ⟨_, h.exec_ok (storeList_of_plain m _ hplain), State.storedBlock_storedMemory hmem⟩

theorem StoresThenBack.ends (h : StoresThenBack i s m x start back) : BlockStoreEnds i s m x start back := by
  intro k σ hσ
  refine ⟨fun hk => ?_, fun r hr hk => ⟨fun va status write hwrite => ?_, fun f hwrite => ?_⟩⟩
  · have hall := storeList_take hk.le hσ
    rw [List.take_of_length_le (by rw [length_registerList, hk])] at hall
    exact h.exec_ok hall
  · exact h.exec_abort (storeList_fails hr hk hσ (by simp) hwrite)
  · exact h.exec_halt (storeList_fails hr hk hσ (by simp) hwrite)

end Store

end Sys2Proof.Machine

namespace Sys2Proof

open Machine

/-! ### STM -/

section Stm

variable {i : Instr} {p u : Bool} {o : BlockOp}

/-- R416 to R420: each addressing mode of STM stores its block and writes back. -/
theorem storesBlock_of_endsAs (h : i.EndsAs (stmBody p u o.w o.rn o.registers)) : StoresBlock i p u o := by
  intro s hr start back
  have hstores : StoresThenBack i s s.mode o.registers start back := by
    refine ⟨fun t => ?_, ?_⟩
    · cases hw : o.w <;> simp [back, hw, State.setReg_starting]
    · rw [h s hr, stmBody, blockStart_eq, blockEnd_eq]
      rfl
  exact ⟨fun t => hstores.exec_ok, hstores.exec_plain, hstores.ends⟩

end Stm

/-- Settles O52: the four addressing modes of STM by their one body. -/
theorem storeMultipleResults : Obligations.StoreMultipleResults := by
  intro o
  refine ⟨?stm, ?stmda, ?stmdb, ?stmib⟩
  all_goals
    refine storesBlock_of_endsAs (Instr.endsAs rfl (fun s => rfl) ?_)
    simp [Instr.unpredictable, Bool.or_assoc]

/-! ### STM (user registers) (R423) -/

section StmUser

variable {o : StmUserOp} {s : State}

theorem stmUser_endsAs (o : StmUserOp) : (Instr.stmUser o).EndsAs (stmUserBody o) :=
  Instr.endsAs rfl (fun _ => rfl) (by simp [Instr.unpredictable, Bool.or_assoc])

/-- R423: in the other modes it stores the User mode copies, without write-back. -/
theorem stmUser_stores (hr : (Instr.stmUser o).runs s) (hmode : ¬ (s.mode = .usr ∨ s.mode = .sys)) :
    StoresThenBack (.stmUser o) s .usr o.registers (blockFrom o.p o.u (s.reg o.rn) (listCount o.registers)) id := by
  refine ⟨fun _ => rfl, ?_⟩
  rw [← blockStart_eq]
  refine (stmUser_endsAs o s hr).trans (congrArg finish ?_)
  exact (if_neg (s.usrOrSys_iff.not.mpr hmode)).trans (Res.andThen_done _).symm

end StmUser

/-- Settles O53: in User and System mode both halt, in the others each ends as its loop over the User mode copies. -/
theorem userRegisterTransfers : Obligations.UserRegisterTransfers := by
  refine ⟨fun o s hr => ⟨fun hmode => ?ldmHalts, fun husr hsys => ?ldm⟩,
    fun o s hr => ⟨fun hmode => ?stmHalts, fun husr hsys => ?stm⟩⟩
  case ldmHalts => exact (ldmUser_endsAs o s hr).trans (congrArg finish (if_pos (s.usrOrSys_iff.mpr hmode)))
  case ldm =>
    have hmode := not_or.mpr ⟨husr, hsys⟩
    exact ⟨fun value hread => ⟨_, exec_ldmUser_words hr hmode hread, State.loadedBlock_of_cells (by decide) nofun⟩,
      ldmUser_halts hr hmode⟩
  case stmHalts => exact (stmUser_endsAs o s hr).trans (congrArg finish (if_pos (s.usrOrSys_iff.mpr hmode)))
  case stm =>
    have hstores := stmUser_stores hr (not_or.mpr ⟨husr, hsys⟩)
    exact ⟨fun t => hstores.exec_ok, hstores.exec_plain, hstores.ends⟩

end Sys2Proof
end

section
/-! SUPPORT. O24 and O59 (spec/45_system.md): the hints, barriers and preloads, whose body does nothing, WFI and the wait that it
begins. -/

namespace Sys2Proof

open Machine

/-- R176: an instruction without a condition, not UNPREDICTABLE, ends as the body does. -/
theorem Instr.endsAs_always {i : Instr} {cases : List (Bool × Unpred)} {body : State → Res Unit}
    (hexec : ∀ s, exec i s = runAlways cases s body) (hunpred : i.unpredictable = cases.any Prod.fst) : i.EndsAs body :=
  fun s hr => Instr.exec_of_runs_always hr hunpred (hexec s)

/-! ### Instructions without effect -/

/-- R194, R460 to R465, R470 to R476: the body of each is empty. -/
theorem Instr.endsAs_done_of_hasNoEffect {i : Instr} (h : i.hasNoEffect = true) : i.EndsAs Res.done := by
  cases i with
  | nop o | yield o | wfe o | sev o | dbg o | hintUnallocated o =>
    exact Instr.endsAs rfl (fun _ => rfl) (by simp [Instr.unpredictable])
  | dmb o | dsb o | isb o | pldImm o | pldReg o | pldwImm o | pldwReg o | pliImm o | pliReg o =>
    exact Instr.endsAs_always (fun _ => rfl) (by simp [Instr.unpredictable])
  | memHintImm w | memHintReg w => exact Instr.endsAs_always (cases := []) (fun _ => rfl) rfl
  | _ => cases h

/-- Settles O59: an empty body leaves the boundary's advance alone. -/
theorem hintsAndBarriersOnlyAdvance : Obligations.HintsAndBarriersOnlyAdvance :=
  fun _ s h hr => Instr.endsAs_done_of_hasNoEffect h s hr

/-! ### WFI -/

/-- R467: WFI sets the wait unless an interrupt is pending. -/
theorem wfi_endsAs (o : HintOp) : (Instr.wfi o).EndsAs fun s =>
    .done (if s.irqPending || s.fiqPending then s else { s with waiting := true }) :=
  Instr.endsAs rfl (fun _ => rfl) (by simp [Instr.unpredictable])

namespace Machine

/-- The wait as one field, which a pending interrupt leaves as it was. -/
theorem State.waiting_unless_pending (s : State) : (if s.irqPending || s.fiqPending then s else { s with waiting := true }) =
    { s with waiting := s.waiting || !(s.irqPending || s.fiqPending) } := by
  split
  · next hpending => simp only [hpending, Bool.not_true, Bool.or_false]
  · next hnone => simp only [Bool.not_eq_true _ ▸ hnone, Bool.not_false, Bool.or_true]

/-! ### The wait (R467) -/

section Wait

variable {s t : State}

theorem wake_of_not_waiting (h : s.waiting = false) : wake s = .running s := by
  simp only [wake, h, Bool.not_false, if_true]

theorem wake_of_pending (hwait : s.waiting = true) (h : (s.irqPending || s.fiqPending) = true) :
    wake s = .running { s with waiting := false } := by
  simp only [wake, hwait, h, Bool.not_true, Bool.false_eq_true, if_false, if_true]

/-- R467: without a pending interrupt only a spurious wake, drawn from the counter, ends the wait (log entry 21). -/
theorem wake_of_none_pending (hwait : s.waiting = true) (h : (s.irqPending || s.fiqPending) = false) :
    wake s = if Config.spuriousWake s.draws then .running { s with waiting := false, draws := s.draws + 1 }
      else .waits { s with draws := s.draws + 1 } := by
  simp only [wake, hwait, h, Bool.not_true, Bool.false_eq_true, if_false]

/-- R5: a halted core answers its reason. -/
theorem step_of_halted {f : Fault} (h : s.halted = some f) : step s = .fault f := by
  simp only [step, cycle, h]

theorem step_of_waits (hhalted : s.halted = none) (h : wake s = .waits t) : step s = .next t := by
  simp only [step, cycle, hhalted, h]

theorem step_of_wake (hhalted : s.halted = none) (h : wake s = .running t) : step s = boundary t := by
  simp only [step, cycle, hhalted, h]

/-- R14: a core that wakes steps as the one that it wakes to. -/
theorem step_eq_step_of_wake (hs : s.halted = none) (h : wake s = .running t) (ht : t.halted = none)
    (hrunning : t.waiting = false) : step s = step t :=
  (step_of_wake hs h).trans (step_of_wake ht (wake_of_not_waiting hrunning)).symm

end Wait

/-- Settles O24: WFI by its body, a waiting core by how its wait ends, a halted core by its reason. -/
theorem waitForInterrupt : Obligations.WaitForInterrupt := by
  refine ⟨fun o s hr => ?wfi, fun s hhalted hwait => ⟨fun hpending => ?wakes, fun hnone => ?waits⟩,
    fun s f => step_of_halted⟩
  case wfi => exact (wfi_endsAs o s hr).trans (congrArg (fun t => finish (.done t)) s.starting.waiting_unless_pending)
  case wakes => exact step_eq_step_of_wake hhalted (wake_of_pending hwait hpending) hhalted rfl
  case waits =>
    have hwake := wake_of_none_pending hwait hnone
    cases hspurious : Config.spuriousWake s.draws with
    | true =>
      rw [hspurious, if_pos rfl] at hwake
      exact .inr (step_eq_step_of_wake hhalted hwake hhalted rfl)
    | false =>
      rw [hspurious, if_neg Bool.false_ne_true] at hwake
      exact .inl (step_of_waits hhalted hwake)

end Machine
end Sys2Proof
end

section
/-! SUPPORT. O19 and O20 (spec/45_system.md): MRS, and CPS and SETEND by the bits of the word that each writes to CPSR. -/

namespace Sys2Proof

open Machine

/-! ### MRS -/

namespace Machine

theorem mrsBody_cpsr (rd : Reg) (s : State) : mrsBody false rd s = .done (s.setReg rd (s.cpsr &&& 0xF8FF03DF)) := rfl

theorem mrsBody_noSPSR {s : State} (rd : Reg) (h : s.spsr.get s.mode = none) :
    mrsBody true rd s = .halt (.unpredictable .noSPSR) := by
  simp only [mrsBody, if_true, h]

theorem mrsBody_spsr {s : State} {v : Word} (rd : Reg) (h : s.spsr.get s.mode = some v) :
    mrsBody true rd s = .done (s.setReg rd v) := by
  simp only [mrsBody, if_true, h]

/-- R38: User and System mode have no SPSR. -/
theorem Spsrs.get_of_usrOrSys (r : Spsrs) {m : Mode} (h : m = .usr ∨ m = .sys) : r.get m = none := by
  obtain rfl | rfl := h <;> rfl

end Machine

theorem mrs_endsAs (o : MrsOp) : (Instr.mrs o).EndsAs (mrsBody o.r o.rd) :=
  Instr.endsAs rfl (fun _ => rfl) (by simp [Instr.unpredictable, Bool.or_assoc])

/-- Settles O19: MRS ends as the read of the status register that its bit R names. -/
theorem mrsReadsAStatusRegister : Obligations.MrsReadsAStatusRegister := by
  intro o s hr
  refine ⟨fun h => ?cpsr, fun h hmode => ?noSPSR, fun h v hv => ?spsr⟩ <;> rw [mrs_endsAs o s hr, h]
  case cpsr =>
    rw [mrsBody_cpsr]
    exact congrArg Host.Outcome.next (s.commit_setReg_starting o.rd _)
  case noSPSR => exact congrArg finish (mrsBody_noSPSR (s := s.starting) o.rd (s.spsr.get_of_usrOrSys hmode))
  case spsr =>
    rw [mrsBody_spsr (s := s.starting) o.rd hv]
    exact congrArg Host.Outcome.next (s.commit_setReg_starting o.rd v)

/-! ### The word that CPS writes (R453) -/

/-- R453: whether A, I and F of the instruction select bit `j` of CPSR. -/
def CpsOp.selects (o : CpsOp) (j : Nat) : Bool := (j == 8 && o.a) || (j == 7 && o.i) || (j == 6 && o.f)

namespace Machine

theorem getLsbD_maskBits (a i f : Bool) : ∀ j < 32, (placeBit a 8 ||| placeBit i 7 ||| placeBit f 6).getLsbD j =
    ((j == 8 && a) || (j == 7 && i) || (j == 6 && f)) := by
  revert a i f
  decide

/-- R453: imod 10 clears and 11 sets the selected bits; its bit 1 says that they change, its bit 0 their value. -/
theorem getLsbD_imodMasked (imod : BitVec 2) (selected w : Word) {j : Nat} (hj : j < 32) :
    (if imod = 2 then w &&& ~~~selected else if imod = 3 then w ||| selected else w).getLsbD j =
      if imod.getLsbD 1 && selected.getLsbD j then imod.getLsbD 0 else w.getLsbD j := by
  have himod : imod = 0 ∨ imod = 1 ∨ imod = 2 ∨ imod = 3 := by
    revert imod
    decide
  obtain rfl | rfl | rfl | rfl := himod
  · rfl
  · rfl
  · show (w &&& ~~~selected).getLsbD j = if selected.getLsbD j then false else w.getLsbD j
    rw [BitVec.getLsbD_and, BitVec.getLsbD_not, decide_eq_true hj]
    cases selected.getLsbD j <;> simp
  · show (w ||| selected).getLsbD j = if selected.getLsbD j then true else w.getLsbD j
    rw [BitVec.getLsbD_or]
    cases selected.getLsbD j <;> simp

variable (o : CpsOp) {j : Nat}

/-- R453: each bit of the word that CPS writes to CPSR. -/
theorem getLsbD_cpsValue (w : Word) (hj : j < 32) : (cpsValue o w).getLsbD j =
    if o.m && decide (j ≤ 4) then o.mode.getLsbD j
    else if o.imod.getLsbD 1 && o.selects j then o.imod.getLsbD 0 else w.getLsbD j := by
  have hmasked := getLsbD_imodMasked o.imod (placeBit o.a 8 ||| placeBit o.i 7 ||| placeBit o.f 6) w hj
  rw [getLsbD_maskBits _ _ _ j hj] at hmasked
  unfold cpsValue CpsOp.selects
  cases o.m with
  | false => exact hmasked
  | true =>
    have hfield : (0 ≤ j ∧ j < 0 + 5) = (j ≤ 4) := by
      rw [eq_iff_iff]
      omega
    simp only [if_true, getLsbD_putSlice _ _ _ hj, hmasked, hfield, Nat.sub_zero, Bool.true_and, decide_eq_true_eq]

/-- R453: its mode. -/
theorem psrM_cpsValue (w : Word) : psrM (cpsValue o w) = if o.m then o.mode else psrM w := by
  ext j hj
  have hcut (x : Word) : (psrM x).getLsbD j = x.getLsbD j := by simp [psrM, slice, hj]
  have hsel : o.selects j = false := by
    have hne : j ≠ 8 ∧ j ≠ 7 ∧ j ≠ 6 := by omega
    simp [CpsOp.selects, hne]
  have hle : j ≤ 4 := by omega
  rw [← BitVec.getLsbD_eq_getElem, ← BitVec.getLsbD_eq_getElem, hcut, getLsbD_cpsValue o w (by omega), hsel,
    decide_eq_true hle]
  cases o.m with
  | false => simpa using (hcut w).symm
  | true => rfl

/-- R453, R39: each bit of CPSR after CPS: NMFI can only block F, where F is selected. -/
theorem State.getLsbD_cpsWritten {s : State} (hp : s.privileged = true) (hj : j < 32) :
    (s.cpsrWritten (cpsValue o s.cpsr) 0b1111 false).getLsbD j =
      if o.imod.getLsbD 1 && ((j == 8 && o.a) || (j == 7 && o.i) || (j == 6 && o.f && !s.blocksF (o.imod.getLsbD 0)))
        then o.imod.getLsbD 0
      else if o.m && decide (j ≤ 4) then o.mode.getLsbD j
      else s.cpsr.getLsbD j := by
  rw [State.getLsbD_cpsrWritten _ _ _ _ hj, getLsbD_cpsValue o s.cpsr hj, getLsbD_cpsValue o s.cpsr (show 6 < 32 by decide)]
  have hrange : j = 8 ∨ j = 7 ∨ j = 6 ∨ j ≤ 4 ∨ (j = 5 ∨ 8 < j) := by omega
  obtain rfl | rfl | rfl | hmode | hother := hrange
  · simp [State.cpsrBitWritten, CpsOp.selects, hp]
  · simp [State.cpsrBitWritten, CpsOp.selects, hp]
  · have hselects : o.selects 6 = o.f := by simp [CpsOp.selects]
    have hwritten (f : Bool) : s.cpsrBitWritten 0b1111 f 6 = !s.blocksF f := by simp [State.cpsrBitWritten, hp]
    have hchanged (b : Bool) : (o.imod.getLsbD 1 && ((6 == 8 && o.a) || (6 == 7 && o.i) || (6 == 6 && o.f && b))) =
        (o.imod.getLsbD 1 && o.f && b) := (Bool.and_assoc _ _ _).symm
    have hmode : (o.m && decide (6 ≤ 4)) = false := Bool.and_false o.m
    simp only [hselects, hwritten, hchanged, hmode, Bool.false_eq_true, if_false]
    cases o.imod.getLsbD 1 && o.f with
    | false => exact ite_self _
    | true =>
      simp only [if_true]
      cases s.blocksF (o.imod.getLsbD 0) <;> rfl
  · have hne : j ≠ 8 ∧ j ≠ 7 ∧ j ≠ 6 := by omega
    simp [State.cpsrBitWritten, CpsOp.selects, hp, hmode, hne]
  · have hne : j ≠ 8 ∧ j ≠ 7 ∧ j ≠ 6 ∧ ¬ j ≤ 4 := by omega
    simp [CpsOp.selects, hne]

end Machine

/-! ### CPS and SETEND -/

theorem cps_endsAs (o : CpsOp) : (Instr.cps o).EndsAs fun s =>
    if s.privileged then cpsrWriteByInstr (cpsValue o s.cpsr) 0b1111 false s else .done s :=
  Instr.endsAs_always (fun _ => rfl) (by simp [Instr.unpredictable, cpsInconsistent_eq])

section Cps

variable {o : CpsOp} {s : State} (hr : (Instr.cps o).runs s)
include hr

theorem exec_cps_of_user (hp : s.privileged = false) : exec (.cps o) s = .next s.advance :=
  (cps_endsAs o s hr).trans (congrArg finish (if_neg (hp ▸ Bool.false_ne_true)))

theorem exec_cps_of_privileged (hp : s.privileged = true) :
    exec (.cps o) s = finish (cpsrWriteByInstr (cpsValue o s.cpsr) 0b1111 false s.starting) :=
  (cps_endsAs o s hr).trans (congrArg finish (if_pos hp))

end Cps

/-- R454: SETEND writes E. -/
theorem setend_endsAs (o : SetendOp) : (Instr.setend o).EndsAs fun s => .done { s with cpsr := putBit s.cpsr 9 o.e } :=
  Instr.endsAs_always (fun _ => rfl) (by simp [Instr.unpredictable, Bool.or_assoc])

theorem Machine.getLsbD_putBit (w : Word) {k : Nat} (b : Bool) {j : Nat} (hj : j < 32) :
    (putBit w k b).getLsbD j = if j = k then b else w.getLsbD j := by
  have hone : k ≤ j ∧ j < k + 1 ↔ j = k := by omega
  rw [putBit, getLsbD_putSlice _ _ _ hj]
  simp only [hone]
  split
  · next hjk => simp [hjk]
  · rfl

/-- Settles O20: CPS ends as the write of its word, whose mode and bits are known; SETEND as the write of E. -/
theorem cpsAndSetendChangeTheirFields : Obligations.CpsAndSetendChangeTheirFields := by
  refine ⟨fun o s hr => ⟨exec_cps_of_user hr, fun hp hb => ?badMode, fun hp hb harm => ?writes⟩, fun o s hr => ?setend⟩
  case badMode =>
    rw [exec_cps_of_privileged hr hp]
    exact congrArg finish (cpsrWriteByInstr_badMode (s := s.starting) rfl hp ((psrM_cpsValue o s.cpsr).symm ▸ hb))
  case writes =>
    have hmode : badMode (psrM (cpsValue o s.cpsr)) = false := (psrM_cpsValue o s.cpsr).symm ▸ hb
    refine ⟨_, ?_, fun j => State.getLsbD_cpsWritten o hp⟩
    rw [exec_cps_of_privileged hr hp]
    exact congrArg finish
      (cpsrWriteByInstr_done (s := s.starting) (fun _ _ => hmode) (State.execStateFault_cpsrWritten harm _ _))
  case setend => exact ⟨_, setend_endsAs o s hr, fun j => getLsbD_putBit s.cpsr o.e⟩

end Sys2Proof
end

section
/-! SUPPORT. O8 and O9 (spec/60_exceptions.md): what a step that starts in User mode may change. A body that runs in User mode
writes User registers, and of the status words and CP15 only what User mode may (`State.UserFrame`); where an exception abandons
it, no status word at all (`State.UserData`). So a step leaves User mode only by the entry of an exception (`State.Takes`). -/

namespace Sys2Proof.Machine

/-! ### What User mode may change -/

/-- R32: `t` has the register cells that no register of User mode names (those above cell 14) as `s` has them. -/
def State.KeepsBanked (s t : State) : Prop := ∀ k : Fin 32, 15 ≤ k.val → t.cells.get k = s.cells.get k

/-- R545: what no completed step in User mode changes: A, I, F and M, the SPSRs, CP15 but TPIDRURW, the banked cells. -/
structure State.UserFrame (s t : State) : Prop where
  cpsr : t.cpsr &&& 0x1DF = s.cpsr &&& 0x1DF
  spsr : t.spsr = s.spsr
  cp15 : t.cp15 = { s.cp15 with tpidrurw := t.cp15.tpidrurw }
  banked : s.KeepsBanked t

/-- The status registers, CP15 and the banked cells of `t` are those of `s`: loads, stores and branches of User mode. -/
structure State.UserData (s t : State) : Prop where
  cpsr : t.cpsr = s.cpsr
  spsr : t.spsr = s.spsr
  cp15 : t.cp15 = s.cp15
  banked : s.KeepsBanked t

theorem State.KeepsBanked.refl (s : State) : s.KeepsBanked s := fun _ _ => rfl

theorem State.UserData.refl (s : State) : s.UserData s := ⟨rfl, rfl, rfl, .refl s⟩

theorem State.UserData.frame {s t : State} (h : s.UserData t) : s.UserFrame t :=
  ⟨by rw [h.cpsr], h.spsr, by rw [h.cp15], h.banked⟩

/-- R114: outside the privileged modes the mode is User. -/
theorem State.mode_of_user {s : State} (h : s.privileged = false) : s.mode = .usr :=
  State.mode_of_bits (by simpa [State.privileged] using h)

/-- R31, R32: User mode sees its registers in the cells 0 to 14. -/
theorem cellOf_usr_lt {i : Reg} (hi : i ≠ pcReg) : (cellOf .usr i).val < 15 := by
  have hlt := toNat_lt_of_ne_pc hi
  rw [cellOf_val hi]
  have hbank : Mode.stackBank .usr = 0 := rfl
  split_ifs <;> omega

theorem State.keepsBanked_setRmode_usr (s : State) (i : Reg) (v : Word) : s.KeepsBanked (s.setRmode .usr i v) := by
  intro k hk
  unfold State.setRmode
  split
  · rfl
  · next hi =>
    have hne : (cellOf .usr i).val ≠ k.val := by have := cellOf_usr_lt hi; omega
    simp only [Vector.get_eq_getElem]
    exact Vector.getElem_set_ne _ _ hne

section UserData

variable {s t u : State}

theorem State.UserData.mode (hs : s.privileged = false) (h : s.UserData t) : t.mode = .usr := by
  rw [State.mode, h.cpsr]
  exact State.mode_of_user hs

theorem State.UserData.setRmode_usr (h : s.UserData t) (i : Reg) (v : Word) : s.UserData (t.setRmode .usr i v) :=
  ⟨by simp [h.cpsr], by simp [h.spsr], by simp [h.cp15],
    fun k hk => (t.keepsBanked_setRmode_usr i v k hk).trans (h.banked k hk)⟩

theorem State.UserData.drawReg_usr (h : s.UserData t) (i : Reg) : s.UserData (t.drawReg .usr i) :=
  have hset := h.setRmode_usr i (Config.freeWord t.draws)
  ⟨hset.cpsr, hset.spsr, hset.cp15, hset.banked⟩

theorem State.UserData.setReg (hs : s.privileged = false) (h : s.UserData t) (i : Reg) (v : Word) :
    s.UserData (t.setReg i v) := by
  rw [State.setReg, h.mode hs]
  exact h.setRmode_usr i v

theorem State.UserData.writeBack (hs : s.privileged = false) (h : s.UserData t) (ad : Addressing) (rn : Reg) :
    s.UserData (t.writeBack ad rn) := by
  unfold State.writeBack
  split
  · exact h.setReg hs rn _
  · exact h

theorem State.UserData.branch (h : s.UserData t) (a : Word) : s.UserData (t.branchWritePC a) :=
  ⟨h.cpsr, h.spsr, h.cp15, h.banked⟩

theorem State.UserData.stored (h : s.UserData t) (hu : t.StoredFrom u) : s.UserData u := by
  obtain ⟨m, rfl, -⟩ := hu
  exact ⟨h.cpsr, h.spsr, h.cp15, h.banked⟩

theorem State.UserData.withMonitor (h : s.UserData t) (mon : Monitor) : s.UserData { t with monitor := mon } :=
  ⟨h.cpsr, h.spsr, h.cp15, h.banked⟩

/-- R39: a status word written outside A, I, F and M after data changes. -/
theorem State.UserData.withCpsr (h : s.UserData t) {c : Word} (hc : c &&& 0x1DF = s.cpsr &&& 0x1DF) :
    s.UserFrame { t with cpsr := c } :=
  ⟨hc, h.spsr, by simp [h.cp15], h.banked⟩

end UserData

/-! ### Loads, stores and branches in User mode -/

section Data

variable {s t : State}

theorem memRead_userData (h : s.UserData t) (va : Word) (w : Width) (acc : Access) : (memRead va w acc t).Leads s.UserData :=
  (memRead_leads va w acc t).mono fun _ hu => hu ▸ h

theorem memWrite_userData (h : s.UserData t) (va : Word) (w : Width) (v : Word) (acc : Access) :
    (memWrite va w v acc t).Leads s.UserData :=
  (memWrite_leads va w v acc t).mono fun _ => h.stored

/-- Two parts that both change User data only. -/
theorem Res.Leads.thenUserData {α β : Type} {r : Res α} {k : α → State → Res β} (h : r.Leads s.UserData)
    (hk : ∀ a u, s.UserData u → (k a u).Leads s.UserData) : (r.andThen k).Leads s.UserData :=
  h.andThen hk fun _ hu => hu

theorem bxWritePC_userData (h : s.UserData t) (a : Word) : (bxWritePC a t).Leads s.UserData := by
  unfold bxWritePC
  split
  · trivial
  · split
    · trivial
    · exact ⟨h.cpsr, h.spsr, h.cp15, h.banked⟩

variable (hs : s.privileged = false)
include hs

theorem loadBody_userData (w : Width) (u sp : Bool) (ext : Word → Word) (ad : Addressing) (rn rt : Reg) :
    (loadBody w u sp ext ad rn rt s).Leads s.UserData :=
  (memRead_userData (.refl s) _ _ _).thenUserData fun _ _ h => (h.writeBack hs ad rn).setReg hs rt _

theorem loadWordBody_userData (ad : Addressing) (rn rt : Reg) : (loadWordBody ad rn rt s).Leads s.UserData := by
  refine (memRead_userData (.refl s) _ _ _).thenUserData fun v t h => ?_
  split
  · split
    · exact bxWritePC_userData (h.writeBack hs ad rn) v
    · trivial
  · exact (h.writeBack hs ad rn).setReg hs rt v

theorem keepBase_userData (rn : Reg) (b : State) {r : Res Unit} (h : r.Leads s.UserData) :
    (keepBase rn b r).Leads s.UserData := by
  cases r with
  | ok a t => exact h
  | exc e t => exact State.UserData.setReg hs h rn _
  | halt f => trivial

theorem loadDualBody_userData (ad : Addressing) (rn rt : Reg) : (loadDualBody ad rn rt s).Leads s.UserData := by
  refine (memRead_userData (.refl s) _ _ _).thenUserData fun lo t h => ?_
  have hread := memRead_userData h (ad.address + 4) .word (readAccess false false)
  split
  · next hi u hr =>
    rw [hr] at hread
    exact ((hread.writeBack hs ad rn).setReg hs rt lo).setReg hs _ hi
  · next e u hr =>
    rw [hr] at hread
    refine keepBase_userData hs rn s (r := .exc e _) ?_
    rw [hread.mode hs]
    exact hread.drawReg_usr rt
  · trivial

theorem storeBody_userData (w : Width) (u sp : Bool) (ad : Addressing) (rn rt : Reg) :
    (storeBody w u sp ad rn rt s).Leads s.UserData :=
  (memWrite_userData (.refl s) _ _ _ _).thenUserData fun _ _ h => h.writeBack hs ad rn

theorem storeDualBody_userData (ad : Addressing) (rn rt : Reg) : (storeDualBody ad rn rt s).Leads s.UserData :=
  (memWrite_userData (.refl s) _ _ _ _).thenUserData fun _ _ h =>
    (memWrite_userData h _ _ _ _).thenUserData fun _ _ hu => hu.writeBack hs ad rn

omit hs in
/-- R411: the load loop over User registers changes what they hold, and then what its continuation changes. -/
theorem loadList_userData {k : Word → State → Res Unit} (hk : ∀ a u, s.UserData u → (k a u).Leads s.UserData) :
    ∀ (rs : List Reg) (a : Word) (t : State), s.UserData t → (loadList .usr k rs a t).Leads s.UserData
  | [], a, t, h => hk a t h
  | r :: rs, a, t, h => by
    refine (memRead_userData h _ _ _).thenUserData fun v u hu => ?_
    have hrest := loadList_userData hk rs (a + 4) _ (hu.setRmode_usr r v)
    split
    · next e x hr =>
      rw [hr] at hrest
      exact hrest.drawReg_usr r
    · next x y hr =>
      rw [hr] at hrest
      exact hrest
    · trivial

theorem ldmBody_userData (p u w : Bool) (rn : Reg) (registers : BitVec 16) :
    (ldmBody p u w rn registers s).Leads s.UserData := by
  have hback (t : State) (v : Word) (h : s.UserData t) : s.UserData (if w then t.setReg rn v else t) := by
    split
    · exact h.setReg hs rn v
    · exact h
  refine keepBase_userData hs rn s ?_
  rw [State.mode_of_user hs]
  refine loadList_userData (fun a t h => ?_) _ _ s (.refl s)
  split
  · exact (memRead_userData h _ _ _).thenUserData fun v x hx =>
      (bxWritePC_userData hx v).thenUserData fun _ y hy => hback y _ hy
  · exact hback t _ h

theorem stmBody_userData (p u w : Bool) (rn : Reg) (registers : BitVec 16) :
    (stmBody p u w rn registers s).Leads s.UserData := by
  have hlist : (storeList s.mode (registerList registers) (blockStart p u (s.reg rn) (bitCount registers)) s).Leads s.UserData :=
    (storeList_leads _ _ _ s).mono fun _ => (State.UserData.refl s).stored
  refine hlist.thenUserData fun _ t h => ?_
  split
  · exact h.setReg hs rn _
  · exact h

theorem ldrexBody_userData (rn rt : Reg) : (ldrexBody rn rt s).Leads s.UserData :=
  (memRead_userData (.refl s) _ _ _).thenUserData fun _ _ h =>
    translateThen_leads h fun _ => (h.withMonitor _).setReg hs rt _

theorem strexBody_userData (rn rd rt : Reg) : (strexBody rn rd rt s).Leads s.UserData := by
  refine translateThen_leads (.refl s) fun pa => ?_
  split
  · exact (memWrite_userData (.refl s) _ _ _ _).thenUserData fun _ _ h => (h.withMonitor _).setReg hs rd 0
  · exact ((State.UserData.refl s).withMonitor _).setReg hs rd 1

end Data

/-! ### The bodies in User mode -/

/-- A body in User mode completes within the frame, or is abandoned with User data changed only. -/
def Res.UserEnds (s : State) (r : Res Unit) : Prop := r.Obeys s.UserFrame fun _ => s.UserData

section Bodies

variable {s : State}

theorem Res.Leads.userEnds {r : Res Unit} (h : r.Leads s.UserData) : r.UserEnds s := by
  cases r with
  | ok a t => exact State.UserData.frame h
  | exc e t => exact h
  | halt f => trivial

/-- R38: User mode has no SPSR. -/
theorem State.spsr_get_of_user (hs : s.privileged = false) : s.spsr.get s.mode = none := by
  rw [State.mode_of_user hs]
  rfl

/-- R527: an exception return needs an SPSR. -/
theorem exceptionReturn_noSPSR (h : s.spsr.get s.mode = none) (target : Word) :
    exceptionReturn target s = .halt (.unpredictable .noSPSR) := by
  rw [exceptionReturn, h]

/-- R39: no write of CPSR in User mode reaches A, I, F or M. -/
theorem State.cpsrWritten_of_user (hs : s.privileged = false) (value : Word) (mask : BitVec 4) (ex : Bool) :
    s.cpsrWritten value mask ex &&& 0x1DF = s.cpsr &&& 0x1DF := by
  have hmask : ∀ mask ex blockF, cpsrWriteMask mask ex false blockF &&& 0x1DF = 0 := by decide
  rw [State.cpsrWritten, hs]
  exact merge_and_of_disjoint (hmask _ _ _) _ _

theorem setNZCV_user (w : Word) (n z c v : Bool) : setNZCV w n z c v &&& 0x1DF = w &&& 0x1DF :=
  merge_and_of_disjoint (by decide) w _

theorem testBody_user (op : DpOp) (rn : Reg) (operand : Word × Bool) : (testBody op rn operand s).UserEnds s :=
  (State.UserData.refl s).withCpsr (setNZCV_user _ _ _ _ _)

/-- R467: WFI starts a wait, or nothing. -/
theorem wfi_user (s : State) :
    (Res.done (if s.irqPending || s.fiqPending then s else { s with waiting := true })).UserEnds s := by
  split
  · exact (State.UserData.refl s).frame
  · exact ⟨rfl, rfl, rfl, .refl s⟩

theorem setend_user (e : Bool) : (Res.done { s with cpsr := putBit s.cpsr 9 e }).UserEnds s :=
  (State.UserData.refl s).withCpsr (merge_and_of_disjoint (by decide) _ _)

/-- R61: the map admits from User mode the writes of TPIDRURW and of the barrier operations. -/
theorem name_of_admitsUser_write {k : Cp15Key} {r : Cp15Row} (h : cp15Lookup k = some r)
    (hu : r.access.admitsUser .write = true) : r.name = .tpidrurw ∨ ∃ b, r.name = .barrier b := by
  have hmap : ∀ r ∈ cp15Map, r.access.admitsUser .write = true →
      r.name = .tpidrurw ∨ r.name = .barrier .isb ∨ r.name = .barrier .dsb ∨ r.name = .barrier .dmb := by decide +kernel
  exact (hmap r (cp15Lookup_eq_some_iff.mp h).1 hu).imp_right fun hb => by
    obtain hb | hb | hb := hb <;> exact ⟨_, hb⟩

theorem mrcWrite_user (hs : s.privileged = false) (rt : Reg) (v : Word) : s.UserFrame (mrcWrite rt v s) := by
  unfold mrcWrite
  split
  · exact (State.UserData.refl s).withCpsr (merge_and_of_disjoint (by decide) _ _)
  · exact ((State.UserData.refl s).setReg hs rt v).frame

theorem State.UserData.mulFlags {t : State} (h : s.UserData t) (sf n z : Bool) : s.UserFrame (t.mulFlags sf n z) := by
  unfold State.mulFlags
  split
  · refine h.withCpsr ?_
    rw [← h.cpsr]
    exact merge_and_of_disjoint (by decide) _ _
  · exact h.frame

variable (hs : s.privileged = false)
include hs

theorem setReg_user (i : Reg) (v : Word) : (Res.done (s.setReg i v)).UserEnds s :=
  ((State.UserData.refl s).setReg hs i v).frame

theorem writeDP_user (rd : Reg) (sf : Bool) (result : Word) (c v : Bool) : (writeDP rd sf result c v s).UserEnds s := by
  unfold writeDP
  split
  · split
    · rw [exceptionReturn_noSPSR (State.spsr_get_of_user hs)]
      trivial
    · exact (bxWritePC_userData (.refl s) result).userEnds
  · have hset := (State.UserData.refl s).setReg hs rd result
    split
    · exact hset.withCpsr (by rw [setNZCV_user, hset.cpsr])
    · exact hset.frame

theorem mulWrite_user (rd : Reg) (sf : Bool) (result : Word) : (mulWrite rd sf result s).UserEnds s :=
  ((State.UserData.refl s).setReg hs rd result).mulFlags sf _ _

theorem mulLongWrite_user (rdHi rdLo : Reg) (sf : Bool) (result : BitVec 64) :
    (mulLongWrite rdHi rdLo sf result s).UserEnds s :=
  (((State.UserData.refl s).setReg hs rdHi _).setReg hs rdLo _).mulFlags sf _ _

theorem mrsBody_user (r : Bool) (rd : Reg) : (mrsBody r rd s).UserEnds s := by
  unfold mrsBody
  split
  · rw [State.spsr_get_of_user hs]
    trivial
  · exact setReg_user hs rd _

theorem msrBody_user (r : Bool) (mask : BitVec 4) (value : Word) : (msrBody r mask value s).UserEnds s := by
  unfold msrBody
  split
  · rw [spsrWriteByInstr_noSPSR (State.spsr_get_of_user hs)]
    trivial
  · cases hw : cpsrWriteByInstr value mask false s with
    | ok a t =>
      obtain ⟨rfl, -, -⟩ := cpsrWriteByInstr_ok hw
      exact (State.UserData.refl s).withCpsr (State.cpsrWritten_of_user hs value mask false)
    | exc e t => exact absurd hw cpsrWriteByInstr_not_exc
    | halt f => trivial

/-- R453: CPS does nothing in User mode. -/
theorem cps_user (value : Word) :
    (if s.privileged then cpsrWriteByInstr value 0b1111 false s else .done s).UserEnds s := by
  rw [if_neg (ne_true_of_eq_false hs)]
  exact (State.UserData.refl s).frame

/-- R490, R61: an MCR that User mode may make writes TPIDRURW, or does a barrier operation. -/
theorem cp15WriteBody_user (k : Cp15Key) (v : Word) : (cp15WriteBody k v s).UserEnds s := by
  unfold cp15WriteBody
  split
  · trivial
  · next r hr =>
    split
    · trivial
    · split
      · exact .refl s
      · next hpass =>
        have hu : r.access.admitsUser .write = true := by
          by_contra hu
          simp [hs, hu] at hpass
        refine ⟨rfl, rfl, ?_, .refl s⟩
        obtain hn | ⟨b, hn⟩ := name_of_admitsUser_write hr hu <;> simp only [hn, Cp15.written]

theorem mrc_user (k : Cp15Key) (rt : Reg) :
    ((cp15ReadBody k s).andThen fun v t => .done (mrcWrite rt v t)).UserEnds s := by
  have hread := cp15ReadBody_leads k s
  cases hr : cp15ReadBody k s with
  | ok v t =>
    rw [hr] at hread
    obtain rfl : t = s := hread
    exact mrcWrite_user hs rt v
  | exc e t =>
    rw [hr] at hread
    obtain rfl : t = s := hread
    exact .refl t
  | halt f => trivial

/-- R421, R422, R423: the block transfers of the exception modes halt in User mode. -/
theorem ldmExcBody_user (o : LdmExcOp) : (ldmExcBody o s).UserEnds s := by
  rw [ldmExcBody, if_pos (s.usrOrSys_iff.mpr (.inl (State.mode_of_user hs)))]
  trivial

theorem ldmUserBody_user (o : LdmUserOp) : (ldmUserBody o s).UserEnds s := by
  rw [ldmUserBody, if_pos (s.usrOrSys_iff.mpr (.inl (State.mode_of_user hs)))]
  trivial

theorem stmUserBody_user (o : StmUserOp) : (stmUserBody o s).UserEnds s := by
  rw [stmUserBody, if_pos (s.usrOrSys_iff.mpr (.inl (State.mode_of_user hs)))]
  trivial

end Bodies

/-! ### The entry of an exception -/

/-- R521, R546: `t` is as the entry of an exception leaves it: in its mode, at its vector, I set, the CPSR of `s` saved. -/
structure State.Takes (s : State) (kind : ExcKind) (t : State) : Prop where
  mode : psrM t.cpsr = kind.mode.bits
  masked : psrI t.cpsr = true
  saved : t.spsr.get kind.mode = some s.cpsr
  vector : t.pc = s.vectorBase + kind.offset

/-- R38: the SPSR of the mode an exception is taken in is the one written. -/
theorem Spsrs.get_set_of_kind (r : Spsrs) (kind : ExcKind) (v : Word) : (r.set kind.mode v).get kind.mode = some v := by
  cases kind <;> rfl

/-- R521: every entry sets I. -/
theorem psrI_entryCpsr (kind : ExcKind) (cpsr sctlr : Word) : psrI (entryCpsr kind cpsr sctlr) = true := by
  have hI : entryCpsr kind cpsr sctlr &&& 0x80 = 0x80 := by
    refine (merge_and_of_subset (by cases kind <;> decide) _ _).trans ?_
    cases kind <;> cases bit sctlr 25 <;> decide
  exact bit_congr (b := 0x80) hI 7 (by decide)

theorem State.takes_enter (s : State) (kind : ExcKind) (lr : Word) : s.Takes kind (s.enter kind lr) where
  mode := psrM_entryCpsr kind _ _
  masked := psrI_entryCpsr kind _ _
  saved := s.spsr.get_set_of_kind kind s.cpsr
  vector := rfl

/-- R530 to R533: an exception raised in a state that has the CPSR and the CP15 registers of `s` is one that `s` takes. -/
theorem takes_of_raise {e : Exc} {s u t : State} (hcpsr : u.cpsr = s.cpsr) (hcp15 : u.cp15 = s.cp15)
    (h : raise e u = .next t) : ∃ kind, s.Takes kind t := by
  have hbase : u.vectorBase = s.vectorBase := by rw [State.vectorBase, hcp15, State.vectorBase]
  obtain ⟨kind, lr, v, rfl, rfl | ⟨⟨va, st, wr, rfl⟩, -⟩⟩ := raise_enters h
  · obtain ⟨hmode, hmasked, hsaved, hvector⟩ := v.takes_enter kind lr
    exact ⟨kind, hmode, hmasked, hcpsr ▸ hsaved, hbase ▸ hvector⟩
  · obtain ⟨hmode, hmasked, hsaved, hvector⟩ := (u.setMemoryAbort va st wr).takes_enter kind lr
    exact ⟨kind, hmode, hmasked, hcpsr ▸ hsaved, hvector.trans (congrArg (· + kind.offset) hbase)⟩

/-! ### An instruction in User mode -/

/-- R545, R546: from User mode, the frame is kept or an exception is taken. -/
inductive State.UserStep (s t : State) : Prop
  | stays (h : s.UserFrame t)
  | leaves {kind : ExcKind} (h : s.Takes kind t)

theorem userStep_of_raise {e : Exc} {s u t : State} (hu : s.UserData u) (h : raise e u = .next t) : s.UserStep t :=
  have ⟨_, htakes⟩ := takes_of_raise hu.cpsr hu.cp15 h
  .leaves htakes

theorem State.userFrame_advance (s : State) : s.UserFrame s.advance := ⟨rfl, rfl, rfl, .refl s⟩

/-- R13, R14: an instruction whose body ends as it should in User mode, its condition passed or failed. -/
theorem userStep_of_runInstr {cond : Cond} {cases : List (Bool × Unpred)} {body : State → Res Unit} {s t : State} {o : Out}
    (hs : s.privileged = false) (h : o = .next t) (hexec : o = runInstr cond cases s body)
    (hbody : ∀ s, s.privileged = false → (body s).UserEnds s) : s.UserStep t := by
  obtain ⟨-, ⟨-, rfl⟩ | ⟨-, hf⟩⟩ := runInstr_next (hexec.symm.trans h)
  · exact .stays s.userFrame_advance
  · have hends := hbody s.starting hs
    obtain ⟨u, hu, rfl⟩ | ⟨e, u, hu, he⟩ := finish_next hf
    · rw [hu] at hends
      have ⟨hcpsr, hspsr, hcp15, hbanked⟩ := hends
      exact .stays ⟨hcpsr, hspsr, hcp15, hbanked⟩
    · rw [hu] at hends
      have ⟨hcpsr, hspsr, hcp15, hbanked⟩ := hends
      exact userStep_of_raise ⟨hcpsr, hspsr, hcp15, hbanked⟩ he

/-- R176: the same without a condition. -/
theorem userStep_of_runAlways {cases : List (Bool × Unpred)} {body : State → Res Unit} {s t : State} {o : Out}
    (hs : s.privileged = false) (h : o = .next t) (hexec : o = runAlways cases s body)
    (hbody : ∀ s, s.privileged = false → (body s).UserEnds s) : s.UserStep t :=
  userStep_of_runInstr hs h hexec hbody

end Sys2Proof.Machine

namespace Sys2Proof

open Machine

/-- R545, R546: every instruction in User mode keeps the frame or takes an exception. The instructions are grouped by their
body. -/
theorem exec_userStep {i : Instr} {s t : State} (hs : s.privileged = false) (h : exec i s = .next t) : s.UserStep t := by
  cases i with
  | undefUncondMisc w | undefUncond1100000 w | mcrr2 o | stc2 o | cdp2 o | mcr2 o | undefUncondOther w
  | mrsMsrBanked w | eret w | hvc w | undefMisc w | undefMultiply0101 w | undefMultiply0111 w | undefSync w
  | udf o | undefCoproc00000 w | undefAnyOther w =>
    exact userStep_of_raise (e := .undefined) (.refl s) h
  | memHintImm w | pliImm o | pldwImm o | pldImm o | dsb o | dmb o | isb o | memHintReg w | pliReg o
  | pldwReg o | pldReg o =>
    refine userStep_of_runAlways hs h (by dsimp only [exec]; rfl) ?_
    exact fun s _ => (State.UserData.refl s).frame
  | clrex o =>
    refine userStep_of_runAlways hs h (by dsimp only [exec]; rfl) ?_
    exact fun s _ => ((State.UserData.refl s).withMonitor _).frame
  | setend o => exact userStep_of_runAlways hs h (by dsimp only [exec]; rfl) fun _ _ => setend_user o.e
  | cps o => exact userStep_of_runAlways hs h (by dsimp only [exec]; rfl) fun _ hs => cps_user hs _
  | nop o | yield o | wfe o | sev o | dbg o | hintUnallocated o =>
    refine userStep_of_runInstr hs h (by dsimp only [exec]; rfl) ?_
    exact fun s _ => (State.UserData.refl s).frame
  | wfi o => exact userStep_of_runInstr hs h (by dsimp only [exec]; rfl) fun s _ => wfi_user s
  | svc o | mcrr o | stc o | cdp o | mcrOther o =>
    refine userStep_of_runInstr hs h (by dsimp only [exec]; rfl) ?_
    exact fun s _ => .refl s
  | tstImm o | tstReg o | tstRsr o | teqImm o | teqReg o | teqRsr o | cmpImm o | cmpReg o | cmpRsr o
  | cmnImm o | cmnReg o | cmnRsr o =>
    exact userStep_of_runInstr hs h (by dsimp only [exec]; rfl) fun _ _ => testBody_user _ o.rn _
  | mrs o => exact userStep_of_runInstr hs h (by dsimp only [exec]; rfl) fun _ hs => mrsBody_user hs o.r o.rd
  | msrReg o | msrImm o =>
    exact userStep_of_runInstr hs h (by dsimp only [exec]; rfl) fun _ hs => msrBody_user hs o.r o.mask _
  | mcrP15 o => exact userStep_of_runInstr hs h (by dsimp only [exec]; rfl) fun _ hs => cp15WriteBody_user hs _ _
  | mrcP15 o => exact userStep_of_runInstr hs h (by dsimp only [exec]; rfl) fun _ hs => mrc_user hs _ o.rt
  | b o =>
    refine userStep_of_runInstr hs h (by dsimp only [exec]; rfl) ?_
    exact fun s _ => ((State.UserData.refl s).branch _).frame
  | bl o =>
    refine userStep_of_runInstr hs h (by dsimp only [exec]; rfl) ?_
    exact fun s hs => (((State.UserData.refl s).setReg hs lrReg _).branch _).frame
  | bx o | bxj o =>
    exact userStep_of_runInstr hs h (by dsimp only [exec]; rfl) fun s _ => (bxWritePC_userData (.refl s) _).userEnds
  | blxReg o =>
    exact userStep_of_runInstr hs h (by dsimp only [exec]; rfl) fun s hs =>
      (bxWritePC_userData ((State.UserData.refl s).setReg hs lrReg _) _).userEnds
  | clz o | movw o | movt o | sxtb16 o | sxtab16 o | sxtb o | sxtab o | sxth o | sxtah o | uxtb16 o
  | uxtab16 o | uxtb o | uxtab o | uxth o | uxtah o | rev o | rev16 o | revsh o | sbfx o | bfc o | bfi o
  | ubfx o =>
    exact userStep_of_runInstr hs h (by dsimp only [exec]; rfl) fun _ hs => setReg_user hs o.rd _
  | andImm o | andReg o | andRsr o | eorImm o | eorReg o | eorRsr o | subImm o | subReg o | subRsr o | rsbImm o
  | rsbReg o | rsbRsr o | addImm o | addReg o | addRsr o | adcImm o | adcReg o | adcRsr o | sbcImm o | sbcReg o
  | sbcRsr o | rscImm o | rscReg o | rscRsr o | orrImm o | orrReg o | orrRsr o | bicImm o | bicReg o | bicRsr o
  | movImm o | movReg o | rrx o | lslImm o | lsrImm o | asrImm o | rorImm o | lslReg o | lsrReg o | asrReg o
  | rorReg o | mvnImm o | mvnReg o | mvnRsr o =>
    exact userStep_of_runInstr hs h (by dsimp only [exec]; rfl) fun _ hs => writeDP_user hs o.rd o.s _ _ _
  | mul o | mla o | mls o =>
    exact userStep_of_runInstr hs h (by dsimp only [exec]; rfl) fun _ hs => mulWrite_user hs o.rd _ _
  | umull o | umlal o | smull o | smlal o =>
    exact userStep_of_runInstr hs h (by dsimp only [exec]; rfl) fun _ hs => mulLongWrite_user hs o.rdHi o.rdLo o.s _
  | ldrhtImm o | ldrhtReg o | ldrhImm o | ldrhReg o | ldrsbtImm o | ldrsbtReg o | ldrsbImm o | ldrsbReg o
  | ldrshtImm o | ldrshtReg o | ldrshImm o | ldrshReg o | ldrtImm o | ldrtReg o | ldrbtImm o | ldrbtReg o
  | ldrbImm o | ldrbReg o =>
    exact userStep_of_runInstr hs h (by dsimp only [exec]; rfl) fun _ hs =>
      (loadBody_userData hs _ _ _ _ _ o.rn o.rt).userEnds
  | strhtImm o | strhtReg o | strhImm o | strhReg o | strtImm o | strtReg o | strImm o | strReg o | strbtImm o
  | strbtReg o | strbImm o | strbReg o =>
    exact userStep_of_runInstr hs h (by dsimp only [exec]; rfl) fun _ hs =>
      (storeBody_userData hs _ _ _ _ o.rn o.rt).userEnds
  | ldrImm o | ldrReg o =>
    exact userStep_of_runInstr hs h (by dsimp only [exec]; rfl) fun _ hs => (loadWordBody_userData hs _ o.rn o.rt).userEnds
  | ldrdImm o | ldrdReg o =>
    exact userStep_of_runInstr hs h (by dsimp only [exec]; rfl) fun _ hs => (loadDualBody_userData hs _ o.rn o.rt).userEnds
  | strdImm o | strdReg o =>
    exact userStep_of_runInstr hs h (by dsimp only [exec]; rfl) fun _ hs => (storeDualBody_userData hs _ o.rn o.rt).userEnds
  | ldrex o =>
    exact userStep_of_runInstr hs h (by dsimp only [exec]; rfl) fun _ hs => (ldrexBody_userData hs o.rn o.rt).userEnds
  | strex o =>
    exact userStep_of_runInstr hs h (by dsimp only [exec]; rfl) fun _ hs => (strexBody_userData hs o.rn o.rd o.rt).userEnds
  | ldmda o | ldm o | ldmdb o | ldmib o =>
    exact userStep_of_runInstr hs h (by dsimp only [exec]; rfl) fun _ hs =>
      (ldmBody_userData hs _ _ o.w o.rn o.registers).userEnds
  | stmda o | stm o | stmdb o | stmib o =>
    exact userStep_of_runInstr hs h (by dsimp only [exec]; rfl) fun _ hs =>
      (stmBody_userData hs _ _ o.w o.rn o.registers).userEnds
  | ldmUser o => exact userStep_of_runInstr hs h (by dsimp only [exec]; rfl) fun _ hs => ldmUserBody_user hs o
  | stmUser o => exact userStep_of_runInstr hs h (by dsimp only [exec]; rfl) fun _ hs => stmUserBody_user hs o
  | ldmExcReturn o => exact userStep_of_runInstr hs h (by dsimp only [exec]; rfl) fun _ hs => ldmExcBody_user hs o
  | qadd o | smc o | swp o => exact nomatch (apply_ite _ _ _ _).trans h
  | _ => exact nomatch h

end Sys2Proof

namespace Sys2Proof.Machine

/-! ### The step -/

theorem State.UserStep.ticked {s t : State} (h : s.UserStep t) : s.UserStep t.ticked := by
  cases h with
  | stays h =>
    obtain ⟨hcpsr, hspsr, hcp15, hbanked⟩ := h
    exact .stays ⟨by simpa using hcpsr, by simpa using hspsr, by simpa using hcp15, by simpa [State.KeepsBanked] using hbanked⟩
  | leaves h =>
    obtain ⟨hmode, hmasked, hsaved, hvector⟩ := h
    exact .leaves ⟨by simpa using hmode, by simpa using hmasked, by simpa using hsaved, by simpa using hvector⟩

/-- R14, R533: a fetch leaves the state as it was, so its abort is an entry and its word an instruction. -/
theorem runFetched_userStep {s t : State} (hs : s.privileged = false) (h : runFetched s = .next t) : s.UserStep t := by
  have hfetch : (fetchWord s).Leads (· = s) := memRead_leads _ _ _ s
  unfold runFetched at h
  split at h
  · next w u hw =>
    rw [hw] at hfetch
    obtain rfl : u = s := hfetch
    exact exec_userStep hs h
  · next e u hw =>
    rw [hw] at hfetch
    obtain rfl : u = s := hfetch
    exact userStep_of_raise (.refl u) h
  · cases h

/-- R534, R535: an accepted interrupt is an entry. -/
theorem takeInterrupt_next {kind : ExcKind} {s t : State} (h : takeInterrupt kind s = .next t) :
    t = s.enter kind (s.pc + 4) := by
  unfold takeInterrupt at h
  split at h
  · cases h
  · exact (takeException_next h).2

/-- R541: so an accepted interrupt leaves User mode as every exception does; the cleared latch does not matter to its entry. -/
theorem acceptInterrupt_takes {s t : State} (h : acceptInterrupt s = some (.next t)) : ∃ kind, s.Takes kind t := by
  unfold acceptInterrupt at h
  split at h
  · rw [takeInterrupt_next (Option.some.inj h)]
    have ⟨hmode, hmasked, hsaved, hvector⟩ := State.takes_enter { s with fiqPending := false } .fiq (s.pc + 4)
    exact ⟨.fiq, hmode, hmasked, hsaved, hvector⟩
  · split at h
    · rw [takeInterrupt_next (Option.some.inj h)]
      have ⟨hmode, hmasked, hsaved, hvector⟩ := State.takes_enter { s with irqPending := false } .irq (s.pc + 4)
      exact ⟨.irq, hmode, hmasked, hsaved, hvector⟩
    · cases h

theorem boundary_userStep {s t : State} (hs : s.privileged = false) (h : boundary s = .next t) : s.UserStep t := by
  unfold boundary at h
  split at h
  · next out ho =>
    obtain ⟨kind, htakes⟩ := acceptInterrupt_takes (h ▸ ho)
    exact .leaves htakes
  · obtain ⟨u, hu, rfl⟩ := Out.ticked_eq_next h
    exact (runFetched_userStep hs hu).ticked

/-- R467: the start of a step changes the wait and the count of draws alone. -/
theorem wake_state (s : State) : ∃ w d, (wake s).state = { s with waiting := w, draws := d } := by
  unfold wake
  split
  · exact ⟨s.waiting, s.draws, rfl⟩
  · split
    · exact ⟨false, s.draws, rfl⟩
    · split
      · exact ⟨false, s.draws + 1, rfl⟩
      · exact ⟨s.waiting, s.draws + 1, rfl⟩

/-- R545, R546: a step from User mode keeps the frame or takes an exception. -/
theorem step_userStep {s t : State} (hs : s.privileged = false) (h : step s = .next t) : s.UserStep t := by
  obtain ⟨w, d, hw⟩ := wake_state s
  unfold step cycle at h
  split at h
  · cases h
  · split at h
    · next u hu =>
      rw [hu] at hw
      obtain rfl : u = _ := hw
      cases h
      exact .stays ⟨rfl, rfl, rfl, .refl s⟩
    · next u hu =>
      rw [hu] at hw
      obtain rfl : u = _ := hw
      cases boundary_userStep (s := { s with waiting := w, draws := d }) hs h with
      | stays h =>
        obtain ⟨hcpsr, hspsr, hcp15, hbanked⟩ := h
        exact .stays ⟨hcpsr, hspsr, hcp15, hbanked⟩
      | leaves h =>
        obtain ⟨hmode, hmasked, hsaved, hvector⟩ := h
        exact .leaves ⟨hmode, hmasked, hsaved, hvector⟩

/-! ### The statements -/

/-- R545: the frame keeps the mode, so it keeps User mode. -/
theorem State.UserFrame.privileged {s t : State} (h : s.UserFrame t) : t.privileged = s.privileged := by
  rw [State.privileged, State.privileged, psrM_congr (and_congr_of_subset h.cpsr (by decide))]

/-- R522: no exception is taken in User mode. -/
theorem State.Takes.privileged {s t : State} {kind : ExcKind} (h : s.Takes kind t) : t.privileged = true := by
  rw [State.privileged, h.mode]
  cases kind <;> rfl

/-- Settles O8: a step that keeps the User frame stays in User mode; any other is the entry of an exception. -/
theorem userModeIsLeftOnlyByExceptionEntry : Obligations.UserModeIsLeftOnlyByExceptionEntry := by
  intro s t hs h ht
  cases step_userStep hs h with
  | stays hframe => exact absurd (ht.symm.trans (hframe.privileged.trans hs)) (by decide)
  | @leaves kind htakes => exact ⟨kind, htakes.mode, htakes.masked, htakes.saved, htakes.vector⟩

/-- Settles O9: the entry of an exception leaves User mode, so a step that stays keeps the User frame. -/
theorem userModeKeepsPrivilegedState : Obligations.UserModeKeepsPrivilegedState := by
  intro s t hs h ht
  cases step_userStep hs h with
  | stays hframe => exact ⟨hframe.cpsr, hframe.spsr, hframe.cp15, hframe.banked⟩
  | leaves htakes => exact absurd (htakes.privileged.symm.trans ht) (by decide)

end Sys2Proof.Machine
end

section
/-! SUPPORT. O21, O23, O26 and O27 (spec/60_exceptions.md): the entry of an exception field by field, and three of the ways into
one: an interrupt at the boundary, SVC, a fetch that faults. -/

namespace Sys2Proof.Machine

/-! ### CPSR after an entry (R521) -/

/-- R521, R522: the bits of CPSR that an entry writes. -/
def ExcKind.writtenBits (kind : ExcKind) : Word :=
  0x0700FEBF ||| maskIf kind.setsF 0x00000040 ||| maskIf kind.setsA 0x00000100

/-- R521: what it writes there, for the value of SCTLR.EE. -/
def ExcKind.entryBits (kind : ExcKind) (ee : Bool) : Word := place kind.mode.bits 0 ||| 0x000001C0 ||| placeBit ee 9

section EntryCpsr

variable {kind : ExcKind} {cpsr sctlr : Word}

theorem getLsbD_entryCpsr {j : Nat} (hj : j < 32) : (entryCpsr kind cpsr sctlr).getLsbD j =
    if kind.writtenBits.getLsbD j then (kind.entryBits (bit sctlr 25)).getLsbD j else cpsr.getLsbD j :=
  getLsbD_merge _ _ _ _ hj

/-- R522: F is set by the entry of FIQ, else it stays. -/
theorem psrF_entryCpsr : psrF (entryCpsr kind cpsr sctlr) = (psrF cpsr || kind.setsF) := by
  have hmask : kind.writtenBits.getLsbD 6 = kind.setsF := by cases kind <;> rfl
  have hvalue : ∀ ee, (kind.entryBits ee).getLsbD 6 = true := by cases kind <;> decide
  rw [psrF, bit, getLsbD_entryCpsr (by decide), hmask, hvalue]
  cases kind.setsF <;> simp [psrF, bit]

/-- R522: A is set by the entry of an abort or an interrupt, else it stays. -/
theorem psrA_entryCpsr : psrA (entryCpsr kind cpsr sctlr) = (psrA cpsr || kind.setsA) := by
  have hmask : kind.writtenBits.getLsbD 8 = kind.setsA := by cases kind <;> rfl
  have hvalue : ∀ ee, (kind.entryBits ee).getLsbD 8 = true := by cases kind <;> decide
  rw [psrA, bit, getLsbD_entryCpsr (by decide), hmask, hvalue]
  cases kind.setsA <;> simp [psrA, bit]

/-- R521: E is SCTLR.EE. -/
theorem psrE_entryCpsr : psrE (entryCpsr kind cpsr sctlr) = sctlr.getLsbD 25 := by
  have hmask : kind.writtenBits.getLsbD 9 = true := by cases kind <;> rfl
  have hvalue : ∀ ee, (kind.entryBits ee).getLsbD 9 = ee := by cases kind <;> decide
  rw [psrE, bit, getLsbD_entryCpsr (by decide), hmask, hvalue, if_pos rfl, bit]

/-- R521: IT, J and T are zero. -/
theorem entryCpsr_and_state : entryCpsr kind cpsr sctlr &&& 0x0700FC20 = 0 := by
  refine (and_congr_of_subset (k := 0x0700FC20) (entryCpsr_state kind cpsr sctlr) (by decide)).trans ?_
  cases kind <;> decide

theorem entryCpsr_and_itMask : entryCpsr kind cpsr sctlr &&& itMask = 0 :=
  and_congr_of_subset (b := 0) (entryCpsr_and_state (kind := kind)) (by decide)

theorem psrJ_entryCpsr : psrJ (entryCpsr kind cpsr sctlr) = false :=
  bit_congr (b := 0) (entryCpsr_and_state (kind := kind)) 24 (by decide)

theorem psrT_entryCpsr : psrT (entryCpsr kind cpsr sctlr) = false :=
  bit_congr (b := 0) (entryCpsr_and_state (kind := kind)) 5 (by decide)

end EntryCpsr

/-! ### Registers and SPSRs after an entry -/

/-- R521: the copies of r14 that the exception's mode sees hold the link, every other register is as it was. -/
theorem State.rmode_enter (s : State) (kind : ExcKind) (lr : Word) (m : Mode) {i : Reg} (hi : i ≠ pcReg) :
    (s.enter kind lr).rmode m i = if i = 14 ∧ sameCopy 14 m kind.mode = true then lr else s.rmode m i := by
  have hcopy : cellOf kind.mode lrReg = cellOf m i ↔ i = 14 ∧ sameCopy 14 m kind.mode = true := by
    rw [eq_comm, cellOf_eq_iff hi (by decide)]
    exact and_congr_right fun h => by rw [h]
  refine (s.rmode_setRmode kind.mode m lrReg i lr (by decide)).trans ?_
  simp only [hcopy]

/-- R38, R522: the SPSR of the exception's mode is written, and no other. -/
theorem Spsrs.get_set_kind (r : Spsrs) (kind : ExcKind) (v : Word) (m : Mode) :
    (r.set kind.mode v).get m = if m = kind.mode then some v else r.get m := by
  cases kind <;> cases m <;> rfl

/-- R521, R528: with SCTLR.TE = 1 the entry halts, else it is taken. -/
theorem takeException_of_te {s : State} (h : s.cp15.sctlr.getLsbD 30 = true) (kind : ExcKind) (lr : Word) :
    takeException kind lr s = .fault (.notImplemented .thumb) := if_pos h

theorem takeException_of_not_te {s : State} (h : s.cp15.sctlr.getLsbD 30 = false) (kind : ExcKind) (lr : Word) :
    takeException kind lr s = .next (s.enter kind lr) := if_neg (ne_true_of_eq_false h)

/-- Settles O21: the row of the table is what the model says of the kind, and each field of an entry by its lemma. -/
theorem exceptionEntry : Obligations.ExceptionEntry := by
  intro kind lr s row
  have hrow : row = (kind.mode.bits, kind.offset, kind.setsF, kind.setsA) := by cases kind <;> rfl
  rw [hrow]
  refine ⟨fun hte => takeException_of_te hte kind lr, fun hte => ⟨_, takeException_of_not_te hte kind lr, rfl, ?_⟩⟩
  exact ⟨psrM_entryCpsr kind _ _, fun m i hi => s.rmode_enter kind lr m hi, s.spsr.get_set_kind kind s.cpsr,
    psrI_entryCpsr kind _ _, psrF_entryCpsr, psrA_entryCpsr, entryCpsr_and_itMask, psrJ_entryCpsr, psrT_entryCpsr,
    psrE_entryCpsr, entryCpsr_kept kind _ _, rfl, rfl, s.enter_monitor kind lr, rfl, s.enter_mem kind lr,
    s.enter_irqPending kind lr, s.enter_fiqPending kind lr, s.enter_waiting kind lr⟩

/-! ### Interrupts (R541) -/

section Accept

variable {s : State}

theorem acceptInterrupt_fiq (h : (s.fiqPending && !psrF s.cpsr) = true) :
    acceptInterrupt s = some (takeInterrupt .fiq { s with fiqPending := false }) := if_pos h

theorem acceptInterrupt_irq (hfiq : (s.fiqPending && !psrF s.cpsr) = false) (h : (s.irqPending && !psrI s.cpsr) = true) :
    acceptInterrupt s = some (takeInterrupt .irq { s with irqPending := false }) := by
  rw [acceptInterrupt, if_neg (ne_true_of_eq_false hfiq), if_pos h]

theorem acceptInterrupt_none (hfiq : (s.fiqPending && !psrF s.cpsr) = false) (h : (s.irqPending && !psrI s.cpsr) = false) :
    acceptInterrupt s = none := by
  rw [acceptInterrupt, if_neg (ne_true_of_eq_false hfiq), if_neg (ne_true_of_eq_false h)]

/-- R14: an accepted interrupt is the whole step of a running core. -/
theorem step_of_accepted {out : Out} (hhalted : s.halted = none) (hwaiting : s.waiting = false)
    (h : acceptInterrupt s = some out) : step s = out := by
  rw [step_of_wake hhalted (wake_of_not_waiting hwaiting), boundary, h]

end Accept

/-- Settles O23: the three answers of the boundary. -/
theorem interruptsAreAcceptedAtTheBoundary : Obligations.InterruptsAreAcceptedAtTheBoundary := by
  intro s hhalted hwaiting fiq irq
  exact ⟨fun hfiq => step_of_accepted hhalted hwaiting (acceptInterrupt_fiq hfiq),
    fun hfiq hirq => step_of_accepted hhalted hwaiting (acceptInterrupt_irq hfiq hirq),
    fun hfiq hirq => step_of_running hhalted hwaiting (acceptInterrupt_none hfiq hirq)⟩

/-! ### SVC (R531) -/

theorem svc_endsAs (o : BranchOp) : (Instr.svc o).EndsAs fun s => .exc .supervisorCall s :=
  Instr.endsAs (cases := []) rfl (fun _ => rfl) rfl

/-- Settles O26: the body of SVC raises the exception, and nothing comes before it. -/
theorem supervisorCallEntersSvcMode : Obligations.SupervisorCallEntersSvcMode := by
  intro o s hpass
  have hexec : exec (.svc o) s = takeException .supervisorCall (s.pc + 4) s := svc_endsAs o s ⟨rfl, hpass⟩
  exact ⟨hexec, fun hte => hexec.trans (takeException_of_not_te hte _ _)⟩

/-! ### A fetch that faults (R533) -/

/-- R110: if the translation aborts, it is with the fault of the access at the address. -/
def Access.AbortsAt (acc : Access) (va : Word) : Xlat → Prop
  | .abort e => ∃ status, acc.fault va status = .abort e
  | _ => True

section AbortsAt

variable {s : State} {va : Word} {acc : Access}

theorem Access.abortsAt_fault (acc : Access) (va : Word) (status : FaultStatus) : acc.AbortsAt va (acc.fault va status) :=
  ⟨status, rfl⟩

theorem Access.abortsAt_ite_halt {c : Prop} [Decidable c] {f : Fault} {x : Xlat} (h : acc.AbortsAt va x) :
    acc.AbortsAt va (if c then .halt f else x) := by
  split
  · trivial
  · exact h

theorem State.checkExecute_abortsAt (level : Level) (xn : Bool) (pa : Word) :
    acc.AbortsAt va (s.checkExecute va acc level xn pa) := by
  unfold State.checkExecute
  split
  · exact acc.abortsAt_fault va _
  · trivial

theorem State.checkDomain_abortsAt (level : Level) (d : BitVec 4) (ap2 : Bool) (ap10 : BitVec 2) (xn : Bool) (pa : Word) :
    acc.AbortsAt va (s.checkDomain va acc level d ap2 ap10 xn pa) := by
  unfold State.checkDomain
  split
  · exact acc.abortsAt_fault va _
  · split
    · exact State.checkExecute_abortsAt level xn pa
    · exact acc.abortsAt_fault va _
    · trivial
  · trivial
  · exact State.checkExecute_abortsAt level xn pa

theorem State.walkPage_abortsAt (d1 d2 : Word) : acc.AbortsAt va (s.walkPage va acc d1 d2) := by
  unfold State.walkPage
  split
  · exact acc.abortsAt_fault va _
  · trivial
  · exact State.checkDomain_abortsAt _ _ _ _ _ _

theorem State.walkFirst_abortsAt (d1 : Word) : acc.AbortsAt va (s.walkFirst va acc d1) := by
  unfold State.walkFirst
  split
  · exact State.walkPage_abortsAt _ _
  · exact Access.abortsAt_ite_halt (State.checkDomain_abortsAt _ _ _ _ _ _)
  · exact acc.abortsAt_fault va _

theorem State.translate_abortsAt : acc.AbortsAt va (s.translate va acc) := by
  unfold State.translate
  split
  · trivial
  · exact Access.abortsAt_ite_halt (Access.abortsAt_ite_halt (Access.abortsAt_ite_halt (State.walkFirst_abortsAt _)))

/-- R110, R533: an aborted translation of the fetch is a prefetch abort at its address. -/
theorem State.prefetchAbort_of_translate {e : Exc} (h : s.translate va fetchAccess = .abort e) :
    ∃ status, e = .prefetchAbort va status := by
  have habort := State.translate_abortsAt (s := s) (va := va) (acc := fetchAccess)
  rw [h] at habort
  obtain ⟨status, hstatus⟩ := habort
  exact ⟨status, (Xlat.abort.inj hstatus).symm⟩

/-- R121: at an aligned PC the fetch is one translated read. -/
theorem fetchWord_of_aligned (hpc : s.pcAligned = true) : fetchWord s = readWhole s.pc .word fetchAccess s := by
  have hfetch : fetchAccess.fetch = true := rfl
  simp [fetchWord, memRead, hfetch, alignedTo_pc hpc]

end AbortsAt

/-- Settles O27: the fetch ends as its translation does, and its abort is raised before any instruction. -/
theorem fetchFaultsArePrefetchAborts : Obligations.FetchFaultsArePrefetchAborts := by
  intro s hhalted hwaiting hfiq hirq hpc
  have hstep : step s = fetchAndExecute s := step_of_running hhalted hwaiting (acceptInterrupt_eq_none hfiq hirq)
  have hfetch := fetchWord_of_aligned hpc
  refine ⟨fun e he => ?aborts, fun f hf => ?halts⟩
  case aborts =>
    obtain ⟨status, rfl⟩ := State.prefetchAbort_of_translate he
    refine ⟨status, rfl, ?_⟩
    rw [readWhole, translateThen, he] at hfetch
    rw [hstep, fetchAndExecute, runFetched, hfetch]
    rfl
  case halts =>
    rw [readWhole, translateThen, hf] at hfetch
    rw [hstep, fetchAndExecute, runFetched, hfetch]
    rfl

end Sys2Proof.Machine
end

section
/-! SUPPORT. O28 and O29 (spec/60_exceptions.md): the data-processing instructions that return from an exception, and the return
that undoes an entry. -/

namespace Sys2Proof

open Machine

/-! ### The return of data processing (R527, R223) -/

/-- R223, R527: `WriteDP` with S = 1 and Rd = 15 is the exception return to the value. -/
theorem Instr.WritesDp.returnsTo {i : Instr} {sf : Bool} {rd : Reg} {value : State → Word} {carry overflow : State → Bool}
    (h : i.WritesDp sf rd value carry overflow) (hsf : sf = true) (hrd : rd = pcReg) : ReturnsTo i value := by
  intro s hr
  have hexec : exec i s = finish (exceptionReturn (value s) s.starting) := by
    rw [h s hr, hsf, hrd]
    rfl
  rw [hexec]
  exact ⟨fun hnone => congrArg finish (exceptionReturn_noSPSR (s := s.starting) hnone _),
    fun spsr hspsr => exceptionReturn_ends (s := s.starting) hspsr⟩

/-- Settles O28: each instruction ends as `WriteDP` of its result. -/
theorem dataProcessingExceptionReturn : Obligations.DataProcessingExceptionReturn :=
  ⟨fun op f => (op.writesDp f).returnsTo,
    fun o hs hd => ⟨(movImm_movesOperand o).returnsTo hs hd, (mvnImm_movesOperand o).returnsTo hs hd⟩,
    fun o hs hd => ⟨(movReg_movesOperand o).returnsTo hs hd, (rrx_movesOperand o).returnsTo hs hd⟩,
    fun o hs hd => ⟨(lslImm_movesOperand o).returnsTo hs hd, (lsrImm_movesOperand o).returnsTo hs hd,
      (asrImm_movesOperand o).returnsTo hs hd, fun h => (rorImm_movesOperand o h).returnsTo hs hd⟩,
    fun o => (mvnReg_movesOperand o).returnsTo⟩

namespace Machine

/-! ### The return undoes the entry -/

/-- R526: `SUBS pc, lr, #n`. -/
abbrev subsPcLr (n : BitVec 8) : DpImm := { cond := 14, s := true, rn := 14, rd := 15, imm12 := n.setWidth 12 }

/-- R185: an immediate below 256 is not rotated. -/
theorem operandImm_of_byte (n : BitVec 8) (s : State) : (operandImm (n.setWidth 12) s).1 = n.setWidth 32 := by
  have hrot : (n.setWidth 12).extractLsb' 8 4 = 0 := by
    ext j hj
    simp
  have hbyte : (n.setWidth 12).extractLsb' 0 8 = n := by
    ext j hj
    simp only [BitVec.getElem_extractLsb', Nat.zero_add, BitVec.getLsbD_setWidth, BitVec.getLsbD_eq_getElem hj,
      hj.trans (show 8 < 12 by decide), decide_true, Bool.true_and]
  rw [operandImm, armExpandImmC, hrot, hbyte]
  rfl

theorem subsPcLr_runs (n : BitVec 8) (s : State) : (Instr.subImm (subsPcLr n)).runs s :=
  ⟨rfl, passes_of_condition_some (c := 14) rfl⟩

/-- R232, R527: it returns to the link register minus `n`. -/
theorem subsPcLr_returnsTo (n : BitVec 8) : ReturnsTo (.subImm (subsPcLr n)) fun s => s.reg 14 - n.setWidth 32 := by
  have htarget (s : State) : DpOp.sub.result (s.reg 14) (operandImm (n.setWidth 12) s).1 (psrC s.cpsr) =
      s.reg 14 - n.setWidth 32 := by
    rw [operandImm_of_byte]
    rfl
  exact funext htarget ▸ dataProcessingExceptionReturn.1 .sub (.imm (subsPcLr n)) rfl rfl

section Entered

variable (s : State) (kind : ExcKind) (lr : Word)

theorem State.mode_enter : (s.enter kind lr).mode = kind.mode := State.mode_of_bits (psrM_entryCpsr kind _ _)

/-- R521: R[14] of the mode entered is the link. -/
theorem State.reg_lr_enter : (s.enter kind lr).reg 14 = lr := by
  rw [State.reg, if_neg (by decide), s.mode_enter, s.rmode_enter kind lr _ (by decide)]
  exact if_pos ⟨rfl, by simp [sameCopy]⟩

theorem State.spsr_enter : (s.enter kind lr).spsr.get (s.enter kind lr).mode = some s.cpsr := by
  rw [s.mode_enter]
  exact s.spsr.get_set_of_kind kind s.cpsr

variable {s kind lr}

/-- R527, R39: where SCTLR.NMFI does not block F, a return from the SPSR that an entry saved restores CPSR as it was. -/
theorem State.cpsr_of_returned_enter {c : Word} (hnmfi : s.cp15.sctlr.getLsbD 27 = false)
    (h : (s.enter kind lr).returnedCpsr s.cpsr c) : c = s.cpsr := by
  have hF (f : Bool) : (s.enter kind lr).blocksF f = false := by
    rw [State.blocksF, s.enter_cp15, hnmfi, Bool.false_and]
  have hreserved : slice (s.enter kind lr).cpsr 20 4 = slice s.cpsr 20 4 :=
    slice_congr (entryCpsr_kept kind s.cpsr s.cp15.sctlr) 20 4 (by decide)
  ext j hj
  rw [← BitVec.getLsbD_eq_getElem, ← BitVec.getLsbD_eq_getElem, h j hj]
  split
  · next hcase =>
    obtain ⟨hlow, hhigh⟩ | ⟨-, hblock⟩ := hcase
    · have hbit := congrArg (BitVec.getLsbD · (j - 20)) hreserved
      have hlt : j - 20 < 4 := by omega
      simpa [slice, hlt, Nat.add_sub_cancel' hlow] using hbit
    · exact absurd ((hF _).symm.trans hblock) Bool.false_ne_true
  · rfl

/-- R37: in ARM state T, IT and J are zero. -/
theorem of_execStateFault_eq_none {w : Word} (h : execStateFault w = none) :
    ¬ (psrT w = true ∨ w &&& itMask ≠ 0) ∧ psrJ w = false := by
  by_cases hthumb : psrT w = true ∨ w &&& itMask ≠ 0
  · rw [execStateFault_thumb hthumb] at h
    cases h
  · rw [execStateFault_not_thumb hthumb] at h
    exact ⟨hthumb, by simpa using h⟩

end Entered

/-- R526, R527: the return completes at the link minus `n`, with a CPSR made of the saved one. -/
theorem exec_subsPcLr_enter {s : State} (hs : s.Invariant) (kind : ExcKind) (lr : Word) (n : BitVec 8)
    (halign : (lr - n.setWidth 32).extractLsb' 0 2 = 0) :
    ∃ c, exec (.subImm (subsPcLr n)) (s.enter kind lr)
        = .next { s.enter kind lr with cpsr := c, pc := lr - n.setWidth 32, pendingBranch := none } ∧
      (s.enter kind lr).returnedCpsr s.cpsr c := by
  obtain ⟨hthumb, hJ⟩ := of_execStateFault_eq_none hs.armState
  obtain ⟨-, hreturn⟩ := subsPcLr_returnsTo n _ (subsPcLr_runs n (s.enter kind lr))
  obtain ⟨-, -, -, -, hcompletes⟩ := hreturn s.cpsr (s.spsr_enter kind lr)
  simp only [s.reg_lr_enter] at hcompletes
  exact hcompletes halign hs.mode hthumb hJ

/-- Settles O29: the return completes, CPSR comes back from the SPSR, and of the registers only the link was written. -/
theorem returnUndoesExceptionEntry : Obligations.ReturnUndoesExceptionEntry := by
  intro kind lr n s t hinv hnmfi ht halign
  obtain ⟨-, rfl⟩ := takeException_next ht
  obtain ⟨c, hnext, hc⟩ := exec_subsPcLr_enter (s.inv_iff.mp hinv) kind lr n halign
  refine ⟨_, hnext, State.cpsr_of_returned_enter hnmfi hc, rfl, s.enter_mem kind lr, s.enter_cp15 kind lr, fun m i hi hlr => ?_⟩
  exact (s.rmode_enter kind lr m hi).trans (if_neg hlr)

end Machine
end Sys2Proof
end
section
/-! SUPPORT. O5 and O6 (spec/70_reset_and_hazards.md): the state that reset leaves, whatever the draw of what is UNKNOWN. -/

namespace Sys2Proof.Machine

/-! ### The words that reset computes (R580) -/

/-- R580: CPSR after reset by its fields: the fixed bits, the drawn flags and the drawn GE. -/
theorem resetCpsr_eq_fields (d : ResetDraw) : resetCpsr d = 0x000001D3 ||| place d.nzcvq 27 ||| place d.ge 16 := rfl

/-- R580: outside N, Z, C, V, Q and GE the draw does not reach CPSR. -/
theorem resetCpsr_fixed (d : ResetDraw) : resetCpsr d &&& 0x07F0FFFF = (0x000001D3 : Word) &&& 0x07F0FFFF := by
  have hflags : place d.nzcvq 27 &&& 0x07F0FFFF = 0 := place_and _ _ _ (by decide)
  have hge : place d.ge 16 &&& 0x07F0FFFF = 0 := place_and _ _ _ (by decide)
  rw [resetCpsr_eq_fields, or_and_mask, or_and_mask, hflags, hge]
  decide

theorem slice_resetCpsr_nzcvq (d : ResetDraw) : slice (resetCpsr d) 27 5 = d.nzcvq := by
  have hfixed : slice 0x000001D3 27 5 = 0 := by decide
  rw [resetCpsr_eq_fields, slice_or, slice_or, slice_place_same _ _ (by decide), slice_place_other _ _ _ _ (by decide),
    hfixed]
  simp

theorem slice_resetCpsr_ge (d : ResetDraw) : slice (resetCpsr d) 16 4 = d.ge := by
  have hfixed : slice 0x000001D3 16 4 = 0 := by decide
  rw [resetCpsr_eq_fields, slice_or, slice_or, slice_place_same _ _ (by decide), slice_place_other _ _ _ _ (by decide),
    hfixed]
  simp

theorem slice_resetCpsr_reserved (d : ResetDraw) : slice (resetCpsr d) 20 4 = 0 :=
  slice_congr (resetCpsr_fixed d) 20 4 (by decide)

theorem psrM_resetCpsr (d : ResetDraw) : psrM (resetCpsr d) = Mode.svc.bits :=
  slice_congr (resetCpsr_fixed d) 0 5 (by decide)

/-- R37: reset leaves ARM state. -/
theorem execStateFault_resetCpsr (d : ResetDraw) : execStateFault (resetCpsr d) = none :=
  (execStateFault_congr (and_congr_of_subset (resetCpsr_fixed d) (by decide))).trans (by decide)

/-- R580: SCTLR as the rule writes it, a shift for each parameter. -/
theorem resetSctlr_eq_shifts (p : Params) :
    resetSctlr p =
      0x00C50078 ||| (BitVec.ofNat 32 p.vinithi.toNat <<< 13) ||| (BitVec.ofNat 32 p.cfgnmfi.toNat <<< 27) := by
  unfold resetSctlr
  cases p.vinithi <;> cases p.cfgnmfi <;> decide

/-- R62: the reset value of SCTLR has the fixed bits and NMFI that a write would store. -/
theorem sctlrStored_resetSctlr (p : Params) : sctlrStored p.cfgnmfi (resetSctlr p) = resetSctlr p := by
  unfold resetSctlr
  cases p.vinithi <;> cases p.cfgnmfi <;> decide

/-! ### The state after reset -/

/-- Settles O5: the CPSR fields from the fixed part and the two drawn slices, SCTLR from its shifts; every other piece of
state is what `State.resetFrom` puts there. -/
theorem resetLeavesTheResetState : Obligations.ResetLeavesTheResetState := by
  intro s d t
  have hbit (i : Nat) (hi : bit 0x07F0FFFF i = true) : bit t.cpsr i = bit 0x000001D3 i :=
    bit_congr (resetCpsr_fixed d) i hi
  have hit : t.cpsr &&& itMask = 0x000001D3 &&& itMask := and_congr_of_subset (resetCpsr_fixed d) (by decide)
  exact ⟨rfl,
    psrM_resetCpsr d, hbit 7 (by decide), hbit 6 (by decide), hbit 8 (by decide),
    hbit 5 (by decide), hbit 9 (by decide), hit.trans (by decide), hbit 24 (by decide),
    slice_resetCpsr_nzcvq d, slice_resetCpsr_ge d, slice_resetCpsr_reserved d,
    rfl, resetSctlr_eq_shifts s.params, rfl, rfl,
    ⟨rfl, rfl, rfl, rfl, rfl, rfl, rfl, rfl, rfl, rfl, rfl, rfl, rfl, rfl⟩,
    rfl, rfl, rfl, rfl, rfl, rfl, rfl, rfl, rfl, rfl⟩

theorem State.resetFrom_pc (p : Params) (d : ResetDraw) (m : Memory) (n : Nat) :
    (State.resetFrom p d m n).pc = if p.vinithi then 0xFFFF0000 else 0x00000000 := rfl

/-- R44, R580: either reset vector is word aligned. -/
theorem State.resetFrom_pc_aligned (p : Params) (d : ResetDraw) (m : Memory) (n : Nat) :
    slice (State.resetFrom p d m n).pc 0 2 = 0 := by
  rw [State.resetFrom_pc]
  split <;> decide

theorem State.resetFrom_invariant (p : Params) (d : ResetDraw) {m : Memory} (hm : m.wf = true) (n : Nat) :
    (State.resetFrom p d m n).Invariant where
  mem := hm
  pc := State.resetFrom_pc_aligned p d m n
  mode := (congrArg badMode (psrM_resetCpsr d)).trans (badMode_bits .svc)
  armState := execStateFault_resetCpsr d
  reserved := slice_resetCpsr_reserved d
  cp15 := ⟨sctlrStored_resetSctlr p, BitVec.zero_and⟩
  pending := rfl

/-- Settles O6, part by part of the invariant. -/
theorem resetHasTheInvariant : Obligations.ResetHasTheInvariant :=
  fun p d _ n hm => (State.inv_iff _).mpr (State.resetFrom_invariant p d hm n)

end Sys2Proof.Machine
end
